-- ==== Sys2Proof/Word.lean ====
section
/-! DEFINITION. The machine's word types (spec/00_scope.md R8, R10): 8-bit data, 16-bit addresses. -/

namespace Sys2Proof

/-- `u8` of R10: what every bus access moves. -/
abbrev Byte := BitVec 8

/-- `u16` of R10: SP, PC, a register pair, an address. -/
abbrev Word := BitVec 16

end Sys2Proof
end

