-- ==== Sys2Proof/Machine/Bits.lean ====
section
/-! DEFINITION. Bit fields, byte order and sign extension (spec/00_scope.md R10 to R12). -/

namespace Sys2Proof

/-- `{hi, lo}` of R10: `hi` is the high part. -/
def mkWord (hi lo : Byte) : Word := BitVec.ofNat 16 (hi.toNat * 256 + lo.toNat)

/-- `v[15:8]` (R10). -/
def hiByte (v : Word) : Byte := BitVec.ofNat 8 (v.toNat / 256)

/-- `v[7:0]` (R10). -/
def loByte (v : Word) : Byte := BitVec.ofNat 8 v.toNat

/-- `v[hi:lo]` as an unsigned number (R10), for a byte. -/
def field (v : Byte) (hi lo : Nat) : Nat := v.toNat / 2 ^ lo % 2 ^ (hi + 1 - lo)

/-- `zext_16(v)` of R11. -/
def zext16 (v : Byte) : Word := BitVec.ofNat 16 v.toNat

/-- `sext_16(v)` of R11: v if v < 0x80, else v + 0xFF00. -/
def sext16 (v : Byte) : Word := BitVec.ofNat 16 (if v.toNat < 0x80 then v.toNat else v.toNat + 0xFF00)

/-- `signed(v)` of R11. -/
def signed (v : Byte) : Int := if v.toNat < 0x80 then (v.toNat : Int) else (v.toNat : Int) - 256

/-- `bool(c)` of R11 at a bit position: the byte with bit `i` set exactly when `c` holds. -/
def bitAt (c : Bool) (i : Nat) : Byte := if c then BitVec.ofNat 8 (2 ^ i) else 0

end Sys2Proof
end

