-- ==== Sys2Proof/Syntax.lean ====
section
/-! DEFINITION. The instruction set as syntax: one constructor per row of spec/opcode_table.json
(spec/30_encoding.md R240, R241). Operand bytes are arguments, by the names of R236: `n` is d8 or a8,
`nn` is d16, `a` is a16, `e` is e8; `x` is the byte STOP ignores (R243).
The constructors that carry an operand come first (Lean's runtime wants them there); each line
names its row. -/

namespace Sys2Proof

inductive Instr where
  | ldBcD16 (nn : Word) -- 01 LD BC,d16 (R350)
  | ldBD8 (n : Byte) -- 06 LD B,d8 (R302)
  | ldAtA16Sp (a : Word) -- 08 LD (a16),SP (R351)
  | ldCD8 (n : Byte) -- 0E LD C,d8 (R302)
  | stop (x : Byte) -- 10 STOP (R603)
  | ldDeD16 (nn : Word) -- 11 LD DE,d16 (R350)
  | ldDD8 (n : Byte) -- 16 LD D,d8 (R302)
  | jrE8 (e : Byte) -- 18 JR e8 (R551)
  | ldED8 (n : Byte) -- 1E LD E,d8 (R302)
  | jrNzE8 (e : Byte) -- 20 JR NZ,e8 (R552)
  | ldHlD16 (nn : Word) -- 21 LD HL,d16 (R350)
  | ldHD8 (n : Byte) -- 26 LD H,d8 (R302)
  | jrZE8 (e : Byte) -- 28 JR Z,e8 (R552)
  | ldLD8 (n : Byte) -- 2E LD L,d8 (R302)
  | jrNcE8 (e : Byte) -- 30 JR NC,e8 (R552)
  | ldSpD16 (nn : Word) -- 31 LD SP,d16 (R350)
  | ldAtHlD8 (n : Byte) -- 36 LD (HL),d8 (R305)
  | jrCE8 (e : Byte) -- 38 JR C,e8 (R552)
  | ldAD8 (n : Byte) -- 3E LD A,d8 (R302)
  | jpNzA16 (a : Word) -- C2 JP NZ,a16 (R554)
  | jpA16 (a : Word) -- C3 JP a16 (R553)
  | callNzA16 (a : Word) -- C4 CALL NZ,a16 (R557)
  | addAD8 (n : Byte) -- C6 ADD A,d8 (R401)
  | jpZA16 (a : Word) -- CA JP Z,a16 (R554)
  | prefixCb (o2 : Byte) -- CB PREFIX CB (R601)
  | callZA16 (a : Word) -- CC CALL Z,a16 (R557)
  | callA16 (a : Word) -- CD CALL a16 (R556)
  | adcAD8 (n : Byte) -- CE ADC A,d8 (R402)
  | jpNcA16 (a : Word) -- D2 JP NC,a16 (R554)
  | callNcA16 (a : Word) -- D4 CALL NC,a16 (R557)
  | subD8 (n : Byte) -- D6 SUB d8 (R403)
  | jpCA16 (a : Word) -- DA JP C,a16 (R554)
  | callCA16 (a : Word) -- DC CALL C,a16 (R557)
  | sbcAD8 (n : Byte) -- DE SBC A,d8 (R404)
  | ldhAtA8A (n : Byte) -- E0 LDH (a8),A (R313)
  | andD8 (n : Byte) -- E6 AND d8 (R405)
  | addSpE8 (e : Byte) -- E8 ADD SP,e8 (R453)
  | ldAtA16A (a : Word) -- EA LD (a16),A (R311)
  | xorD8 (n : Byte) -- EE XOR d8 (R406)
  | ldhAAtA8 (n : Byte) -- F0 LDH A,(a8) (R312)
  | orD8 (n : Byte) -- F6 OR d8 (R407)
  | ldHlSpE8 (e : Byte) -- F8 LD HL,SP+e8 (R359)
  | ldAAtA16 (a : Word) -- FA LD A,(a16) (R310)
  | cpD8 (n : Byte) -- FE CP d8 (R408)
  | nop -- 00 NOP (R600)
  | ldAtBcA -- 02 LD (BC),A (R308)
  | incBc -- 03 INC BC (R451)
  | incB -- 04 INC B (R409)
  | decB -- 05 DEC B (R410)
  | rlca -- 07 RLCA (R500)
  | addHlBc -- 09 ADD HL,BC (R450)
  | ldAAtBc -- 0A LD A,(BC) (R306)
  | decBc -- 0B DEC BC (R452)
  | incC -- 0C INC C (R409)
  | decC -- 0D DEC C (R410)
  | rrca -- 0F RRCA (R501)
  | ldAtDeA -- 12 LD (DE),A (R309)
  | incDe -- 13 INC DE (R451)
  | incD -- 14 INC D (R409)
  | decD -- 15 DEC D (R410)
  | rla -- 17 RLA (R502)
  | addHlDe -- 19 ADD HL,DE (R450)
  | ldAAtDe -- 1A LD A,(DE) (R307)
  | decDe -- 1B DEC DE (R452)
  | incE -- 1C INC E (R409)
  | decE -- 1D DEC E (R410)
  | rra -- 1F RRA (R503)
  | ldAtHliA -- 22 LD (HL+),A (R316)
  | incHl -- 23 INC HL (R451)
  | incH -- 24 INC H (R409)
  | decH -- 25 DEC H (R410)
  | daa -- 27 DAA (R606)
  | addHlHl -- 29 ADD HL,HL (R450)
  | ldAAtHli -- 2A LD A,(HL+) (R318)
  | decHl -- 2B DEC HL (R452)
  | incL -- 2C INC L (R409)
  | decL -- 2D DEC L (R410)
  | cpl -- 2F CPL (R607)
  | ldAtHldA -- 32 LD (HL-),A (R317)
  | incSp -- 33 INC SP (R451)
  | incAtHl -- 34 INC (HL) (R411)
  | decAtHl -- 35 DEC (HL) (R412)
  | scf -- 37 SCF (R608)
  | addHlSp -- 39 ADD HL,SP (R450)
  | ldAAtHld -- 3A LD A,(HL-) (R319)
  | decSp -- 3B DEC SP (R452)
  | incA -- 3C INC A (R409)
  | decA -- 3D DEC A (R410)
  | ccf -- 3F CCF (R609)
  | ldBB -- 40 LD B,B (R301)
  | ldBC -- 41 LD B,C (R301)
  | ldBD -- 42 LD B,D (R301)
  | ldBE -- 43 LD B,E (R301)
  | ldBH -- 44 LD B,H (R301)
  | ldBL -- 45 LD B,L (R301)
  | ldBAtHl -- 46 LD B,(HL) (R303)
  | ldBA -- 47 LD B,A (R301)
  | ldCB -- 48 LD C,B (R301)
  | ldCC -- 49 LD C,C (R301)
  | ldCD -- 4A LD C,D (R301)
  | ldCE -- 4B LD C,E (R301)
  | ldCH -- 4C LD C,H (R301)
  | ldCL -- 4D LD C,L (R301)
  | ldCAtHl -- 4E LD C,(HL) (R303)
  | ldCA -- 4F LD C,A (R301)
  | ldDB -- 50 LD D,B (R301)
  | ldDC -- 51 LD D,C (R301)
  | ldDD -- 52 LD D,D (R301)
  | ldDE -- 53 LD D,E (R301)
  | ldDH -- 54 LD D,H (R301)
  | ldDL -- 55 LD D,L (R301)
  | ldDAtHl -- 56 LD D,(HL) (R303)
  | ldDA -- 57 LD D,A (R301)
  | ldEB -- 58 LD E,B (R301)
  | ldEC -- 59 LD E,C (R301)
  | ldED -- 5A LD E,D (R301)
  | ldEE -- 5B LD E,E (R301)
  | ldEH -- 5C LD E,H (R301)
  | ldEL -- 5D LD E,L (R301)
  | ldEAtHl -- 5E LD E,(HL) (R303)
  | ldEA -- 5F LD E,A (R301)
  | ldHB -- 60 LD H,B (R301)
  | ldHC -- 61 LD H,C (R301)
  | ldHD -- 62 LD H,D (R301)
  | ldHE -- 63 LD H,E (R301)
  | ldHH -- 64 LD H,H (R301)
  | ldHL -- 65 LD H,L (R301)
  | ldHAtHl -- 66 LD H,(HL) (R303)
  | ldHA -- 67 LD H,A (R301)
  | ldLB -- 68 LD L,B (R301)
  | ldLC -- 69 LD L,C (R301)
  | ldLD -- 6A LD L,D (R301)
  | ldLE -- 6B LD L,E (R301)
  | ldLH -- 6C LD L,H (R301)
  | ldLL -- 6D LD L,L (R301)
  | ldLAtHl -- 6E LD L,(HL) (R303)
  | ldLA -- 6F LD L,A (R301)
  | ldAtHlB -- 70 LD (HL),B (R304)
  | ldAtHlC -- 71 LD (HL),C (R304)
  | ldAtHlD -- 72 LD (HL),D (R304)
  | ldAtHlE -- 73 LD (HL),E (R304)
  | ldAtHlH -- 74 LD (HL),H (R304)
  | ldAtHlL -- 75 LD (HL),L (R304)
  | halt -- 76 HALT (R602)
  | ldAtHlA -- 77 LD (HL),A (R304)
  | ldAB -- 78 LD A,B (R301)
  | ldAC -- 79 LD A,C (R301)
  | ldAD -- 7A LD A,D (R301)
  | ldAE -- 7B LD A,E (R301)
  | ldAH -- 7C LD A,H (R301)
  | ldAL -- 7D LD A,L (R301)
  | ldAAtHl -- 7E LD A,(HL) (R303)
  | ldAA -- 7F LD A,A (R301)
  | addAB -- 80 ADD A,B (R401)
  | addAC -- 81 ADD A,C (R401)
  | addAD -- 82 ADD A,D (R401)
  | addAE -- 83 ADD A,E (R401)
  | addAH -- 84 ADD A,H (R401)
  | addAL -- 85 ADD A,L (R401)
  | addAAtHl -- 86 ADD A,(HL) (R401)
  | addAA -- 87 ADD A,A (R401)
  | adcAB -- 88 ADC A,B (R402)
  | adcAC -- 89 ADC A,C (R402)
  | adcAD -- 8A ADC A,D (R402)
  | adcAE -- 8B ADC A,E (R402)
  | adcAH -- 8C ADC A,H (R402)
  | adcAL -- 8D ADC A,L (R402)
  | adcAAtHl -- 8E ADC A,(HL) (R402)
  | adcAA -- 8F ADC A,A (R402)
  | subB -- 90 SUB B (R403)
  | subC -- 91 SUB C (R403)
  | subD -- 92 SUB D (R403)
  | subE -- 93 SUB E (R403)
  | subH -- 94 SUB H (R403)
  | subL -- 95 SUB L (R403)
  | subAtHl -- 96 SUB (HL) (R403)
  | subA -- 97 SUB A (R403)
  | sbcAB -- 98 SBC A,B (R404)
  | sbcAC -- 99 SBC A,C (R404)
  | sbcAD -- 9A SBC A,D (R404)
  | sbcAE -- 9B SBC A,E (R404)
  | sbcAH -- 9C SBC A,H (R404)
  | sbcAL -- 9D SBC A,L (R404)
  | sbcAAtHl -- 9E SBC A,(HL) (R404)
  | sbcAA -- 9F SBC A,A (R404)
  | andB -- A0 AND B (R405)
  | andC -- A1 AND C (R405)
  | andD -- A2 AND D (R405)
  | andE -- A3 AND E (R405)
  | andH -- A4 AND H (R405)
  | andL -- A5 AND L (R405)
  | andAtHl -- A6 AND (HL) (R405)
  | andA -- A7 AND A (R405)
  | xorB -- A8 XOR B (R406)
  | xorC -- A9 XOR C (R406)
  | xorD -- AA XOR D (R406)
  | xorE -- AB XOR E (R406)
  | xorH -- AC XOR H (R406)
  | xorL -- AD XOR L (R406)
  | xorAtHl -- AE XOR (HL) (R406)
  | xorA -- AF XOR A (R406)
  | orB -- B0 OR B (R407)
  | orC -- B1 OR C (R407)
  | orD -- B2 OR D (R407)
  | orE -- B3 OR E (R407)
  | orH -- B4 OR H (R407)
  | orL -- B5 OR L (R407)
  | orAtHl -- B6 OR (HL) (R407)
  | orA -- B7 OR A (R407)
  | cpB -- B8 CP B (R408)
  | cpC -- B9 CP C (R408)
  | cpD -- BA CP D (R408)
  | cpE -- BB CP E (R408)
  | cpH -- BC CP H (R408)
  | cpL -- BD CP L (R408)
  | cpAtHl -- BE CP (HL) (R408)
  | cpA -- BF CP A (R408)
  | retNz -- C0 RET NZ (R559)
  | popBc -- C1 POP BC (R354)
  | pushBc -- C5 PUSH BC (R353)
  | rst00 -- C7 RST 00h (R562)
  | retZ -- C8 RET Z (R559)
  | ret -- C9 RET (R558)
  | rst08 -- CF RST 08h (R562)
  | retNc -- D0 RET NC (R559)
  | popDe -- D1 POP DE (R354)
  | undefinedD3 -- D3 UNDEFINED (R611)
  | pushDe -- D5 PUSH DE (R353)
  | rst10 -- D7 RST 10h (R562)
  | retC -- D8 RET C (R559)
  | reti -- D9 RETI (R560)
  | undefinedDB -- DB UNDEFINED (R611)
  | undefinedDD -- DD UNDEFINED (R611)
  | rst18 -- DF RST 18h (R562)
  | popHl -- E1 POP HL (R354)
  | ldAtCA -- E2 LD (C),A (R315)
  | undefinedE3 -- E3 UNDEFINED (R611)
  | undefinedE4 -- E4 UNDEFINED (R611)
  | pushHl -- E5 PUSH HL (R353)
  | rst20 -- E7 RST 20h (R562)
  | jpHl -- E9 JP HL (R555)
  | undefinedEB -- EB UNDEFINED (R611)
  | undefinedEC -- EC UNDEFINED (R611)
  | undefinedED -- ED UNDEFINED (R611)
  | rst28 -- EF RST 28h (R562)
  | popAf -- F1 POP AF (R356)
  | ldAAtC -- F2 LD A,(C) (R314)
  | di -- F3 DI (R604)
  | undefinedF4 -- F4 UNDEFINED (R611)
  | pushAf -- F5 PUSH AF (R353)
  | rst30 -- F7 RST 30h (R562)
  | ldSpHl -- F9 LD SP,HL (R352)
  | ei -- FB EI (R605)
  | undefinedFC -- FC UNDEFINED (R611)
  | undefinedFD -- FD UNDEFINED (R611)
  | rst38 -- FF RST 38h (R562)
  | rlcB -- CB 00 RLC B (R505)
  | rlcC -- CB 01 RLC C (R505)
  | rlcD -- CB 02 RLC D (R505)
  | rlcE -- CB 03 RLC E (R505)
  | rlcH -- CB 04 RLC H (R505)
  | rlcL -- CB 05 RLC L (R505)
  | rlcAtHl -- CB 06 RLC (HL) (R505)
  | rlcA -- CB 07 RLC A (R505)
  | rrcB -- CB 08 RRC B (R506)
  | rrcC -- CB 09 RRC C (R506)
  | rrcD -- CB 0A RRC D (R506)
  | rrcE -- CB 0B RRC E (R506)
  | rrcH -- CB 0C RRC H (R506)
  | rrcL -- CB 0D RRC L (R506)
  | rrcAtHl -- CB 0E RRC (HL) (R506)
  | rrcA -- CB 0F RRC A (R506)
  | rlB -- CB 10 RL B (R507)
  | rlC -- CB 11 RL C (R507)
  | rlD -- CB 12 RL D (R507)
  | rlE -- CB 13 RL E (R507)
  | rlH -- CB 14 RL H (R507)
  | rlL -- CB 15 RL L (R507)
  | rlAtHl -- CB 16 RL (HL) (R507)
  | rlA -- CB 17 RL A (R507)
  | rrB -- CB 18 RR B (R508)
  | rrC -- CB 19 RR C (R508)
  | rrD -- CB 1A RR D (R508)
  | rrE -- CB 1B RR E (R508)
  | rrH -- CB 1C RR H (R508)
  | rrL -- CB 1D RR L (R508)
  | rrAtHl -- CB 1E RR (HL) (R508)
  | rrA -- CB 1F RR A (R508)
  | slaB -- CB 20 SLA B (R509)
  | slaC -- CB 21 SLA C (R509)
  | slaD -- CB 22 SLA D (R509)
  | slaE -- CB 23 SLA E (R509)
  | slaH -- CB 24 SLA H (R509)
  | slaL -- CB 25 SLA L (R509)
  | slaAtHl -- CB 26 SLA (HL) (R509)
  | slaA -- CB 27 SLA A (R509)
  | sraB -- CB 28 SRA B (R510)
  | sraC -- CB 29 SRA C (R510)
  | sraD -- CB 2A SRA D (R510)
  | sraE -- CB 2B SRA E (R510)
  | sraH -- CB 2C SRA H (R510)
  | sraL -- CB 2D SRA L (R510)
  | sraAtHl -- CB 2E SRA (HL) (R510)
  | sraA -- CB 2F SRA A (R510)
  | swapB -- CB 30 SWAP B (R511)
  | swapC -- CB 31 SWAP C (R511)
  | swapD -- CB 32 SWAP D (R511)
  | swapE -- CB 33 SWAP E (R511)
  | swapH -- CB 34 SWAP H (R511)
  | swapL -- CB 35 SWAP L (R511)
  | swapAtHl -- CB 36 SWAP (HL) (R511)
  | swapA -- CB 37 SWAP A (R511)
  | srlB -- CB 38 SRL B (R512)
  | srlC -- CB 39 SRL C (R512)
  | srlD -- CB 3A SRL D (R512)
  | srlE -- CB 3B SRL E (R512)
  | srlH -- CB 3C SRL H (R512)
  | srlL -- CB 3D SRL L (R512)
  | srlAtHl -- CB 3E SRL (HL) (R512)
  | srlA -- CB 3F SRL A (R512)
  | bit0B -- CB 40 BIT 0,B (R513)
  | bit0C -- CB 41 BIT 0,C (R513)
  | bit0D -- CB 42 BIT 0,D (R513)
  | bit0E -- CB 43 BIT 0,E (R513)
  | bit0H -- CB 44 BIT 0,H (R513)
  | bit0L -- CB 45 BIT 0,L (R513)
  | bit0AtHl -- CB 46 BIT 0,(HL) (R513)
  | bit0A -- CB 47 BIT 0,A (R513)
  | bit1B -- CB 48 BIT 1,B (R513)
  | bit1C -- CB 49 BIT 1,C (R513)
  | bit1D -- CB 4A BIT 1,D (R513)
  | bit1E -- CB 4B BIT 1,E (R513)
  | bit1H -- CB 4C BIT 1,H (R513)
  | bit1L -- CB 4D BIT 1,L (R513)
  | bit1AtHl -- CB 4E BIT 1,(HL) (R513)
  | bit1A -- CB 4F BIT 1,A (R513)
  | bit2B -- CB 50 BIT 2,B (R513)
  | bit2C -- CB 51 BIT 2,C (R513)
  | bit2D -- CB 52 BIT 2,D (R513)
  | bit2E -- CB 53 BIT 2,E (R513)
  | bit2H -- CB 54 BIT 2,H (R513)
  | bit2L -- CB 55 BIT 2,L (R513)
  | bit2AtHl -- CB 56 BIT 2,(HL) (R513)
  | bit2A -- CB 57 BIT 2,A (R513)
  | bit3B -- CB 58 BIT 3,B (R513)
  | bit3C -- CB 59 BIT 3,C (R513)
  | bit3D -- CB 5A BIT 3,D (R513)
  | bit3E -- CB 5B BIT 3,E (R513)
  | bit3H -- CB 5C BIT 3,H (R513)
  | bit3L -- CB 5D BIT 3,L (R513)
  | bit3AtHl -- CB 5E BIT 3,(HL) (R513)
  | bit3A -- CB 5F BIT 3,A (R513)
  | bit4B -- CB 60 BIT 4,B (R513)
  | bit4C -- CB 61 BIT 4,C (R513)
  | bit4D -- CB 62 BIT 4,D (R513)
  | bit4E -- CB 63 BIT 4,E (R513)
  | bit4H -- CB 64 BIT 4,H (R513)
  | bit4L -- CB 65 BIT 4,L (R513)
  | bit4AtHl -- CB 66 BIT 4,(HL) (R513)
  | bit4A -- CB 67 BIT 4,A (R513)
  | bit5B -- CB 68 BIT 5,B (R513)
  | bit5C -- CB 69 BIT 5,C (R513)
  | bit5D -- CB 6A BIT 5,D (R513)
  | bit5E -- CB 6B BIT 5,E (R513)
  | bit5H -- CB 6C BIT 5,H (R513)
  | bit5L -- CB 6D BIT 5,L (R513)
  | bit5AtHl -- CB 6E BIT 5,(HL) (R513)
  | bit5A -- CB 6F BIT 5,A (R513)
  | bit6B -- CB 70 BIT 6,B (R513)
  | bit6C -- CB 71 BIT 6,C (R513)
  | bit6D -- CB 72 BIT 6,D (R513)
  | bit6E -- CB 73 BIT 6,E (R513)
  | bit6H -- CB 74 BIT 6,H (R513)
  | bit6L -- CB 75 BIT 6,L (R513)
  | bit6AtHl -- CB 76 BIT 6,(HL) (R513)
  | bit6A -- CB 77 BIT 6,A (R513)
  | bit7B -- CB 78 BIT 7,B (R513)
  | bit7C -- CB 79 BIT 7,C (R513)
  | bit7D -- CB 7A BIT 7,D (R513)
  | bit7E -- CB 7B BIT 7,E (R513)
  | bit7H -- CB 7C BIT 7,H (R513)
  | bit7L -- CB 7D BIT 7,L (R513)
  | bit7AtHl -- CB 7E BIT 7,(HL) (R513)
  | bit7A -- CB 7F BIT 7,A (R513)
  | res0B -- CB 80 RES 0,B (R514)
  | res0C -- CB 81 RES 0,C (R514)
  | res0D -- CB 82 RES 0,D (R514)
  | res0E -- CB 83 RES 0,E (R514)
  | res0H -- CB 84 RES 0,H (R514)
  | res0L -- CB 85 RES 0,L (R514)
  | res0AtHl -- CB 86 RES 0,(HL) (R514)
  | res0A -- CB 87 RES 0,A (R514)
  | res1B -- CB 88 RES 1,B (R514)
  | res1C -- CB 89 RES 1,C (R514)
  | res1D -- CB 8A RES 1,D (R514)
  | res1E -- CB 8B RES 1,E (R514)
  | res1H -- CB 8C RES 1,H (R514)
  | res1L -- CB 8D RES 1,L (R514)
  | res1AtHl -- CB 8E RES 1,(HL) (R514)
  | res1A -- CB 8F RES 1,A (R514)
  | res2B -- CB 90 RES 2,B (R514)
  | res2C -- CB 91 RES 2,C (R514)
  | res2D -- CB 92 RES 2,D (R514)
  | res2E -- CB 93 RES 2,E (R514)
  | res2H -- CB 94 RES 2,H (R514)
  | res2L -- CB 95 RES 2,L (R514)
  | res2AtHl -- CB 96 RES 2,(HL) (R514)
  | res2A -- CB 97 RES 2,A (R514)
  | res3B -- CB 98 RES 3,B (R514)
  | res3C -- CB 99 RES 3,C (R514)
  | res3D -- CB 9A RES 3,D (R514)
  | res3E -- CB 9B RES 3,E (R514)
  | res3H -- CB 9C RES 3,H (R514)
  | res3L -- CB 9D RES 3,L (R514)
  | res3AtHl -- CB 9E RES 3,(HL) (R514)
  | res3A -- CB 9F RES 3,A (R514)
  | res4B -- CB A0 RES 4,B (R514)
  | res4C -- CB A1 RES 4,C (R514)
  | res4D -- CB A2 RES 4,D (R514)
  | res4E -- CB A3 RES 4,E (R514)
  | res4H -- CB A4 RES 4,H (R514)
  | res4L -- CB A5 RES 4,L (R514)
  | res4AtHl -- CB A6 RES 4,(HL) (R514)
  | res4A -- CB A7 RES 4,A (R514)
  | res5B -- CB A8 RES 5,B (R514)
  | res5C -- CB A9 RES 5,C (R514)
  | res5D -- CB AA RES 5,D (R514)
  | res5E -- CB AB RES 5,E (R514)
  | res5H -- CB AC RES 5,H (R514)
  | res5L -- CB AD RES 5,L (R514)
  | res5AtHl -- CB AE RES 5,(HL) (R514)
  | res5A -- CB AF RES 5,A (R514)
  | res6B -- CB B0 RES 6,B (R514)
  | res6C -- CB B1 RES 6,C (R514)
  | res6D -- CB B2 RES 6,D (R514)
  | res6E -- CB B3 RES 6,E (R514)
  | res6H -- CB B4 RES 6,H (R514)
  | res6L -- CB B5 RES 6,L (R514)
  | res6AtHl -- CB B6 RES 6,(HL) (R514)
  | res6A -- CB B7 RES 6,A (R514)
  | res7B -- CB B8 RES 7,B (R514)
  | res7C -- CB B9 RES 7,C (R514)
  | res7D -- CB BA RES 7,D (R514)
  | res7E -- CB BB RES 7,E (R514)
  | res7H -- CB BC RES 7,H (R514)
  | res7L -- CB BD RES 7,L (R514)
  | res7AtHl -- CB BE RES 7,(HL) (R514)
  | res7A -- CB BF RES 7,A (R514)
  | set0B -- CB C0 SET 0,B (R515)
  | set0C -- CB C1 SET 0,C (R515)
  | set0D -- CB C2 SET 0,D (R515)
  | set0E -- CB C3 SET 0,E (R515)
  | set0H -- CB C4 SET 0,H (R515)
  | set0L -- CB C5 SET 0,L (R515)
  | set0AtHl -- CB C6 SET 0,(HL) (R515)
  | set0A -- CB C7 SET 0,A (R515)
  | set1B -- CB C8 SET 1,B (R515)
  | set1C -- CB C9 SET 1,C (R515)
  | set1D -- CB CA SET 1,D (R515)
  | set1E -- CB CB SET 1,E (R515)
  | set1H -- CB CC SET 1,H (R515)
  | set1L -- CB CD SET 1,L (R515)
  | set1AtHl -- CB CE SET 1,(HL) (R515)
  | set1A -- CB CF SET 1,A (R515)
  | set2B -- CB D0 SET 2,B (R515)
  | set2C -- CB D1 SET 2,C (R515)
  | set2D -- CB D2 SET 2,D (R515)
  | set2E -- CB D3 SET 2,E (R515)
  | set2H -- CB D4 SET 2,H (R515)
  | set2L -- CB D5 SET 2,L (R515)
  | set2AtHl -- CB D6 SET 2,(HL) (R515)
  | set2A -- CB D7 SET 2,A (R515)
  | set3B -- CB D8 SET 3,B (R515)
  | set3C -- CB D9 SET 3,C (R515)
  | set3D -- CB DA SET 3,D (R515)
  | set3E -- CB DB SET 3,E (R515)
  | set3H -- CB DC SET 3,H (R515)
  | set3L -- CB DD SET 3,L (R515)
  | set3AtHl -- CB DE SET 3,(HL) (R515)
  | set3A -- CB DF SET 3,A (R515)
  | set4B -- CB E0 SET 4,B (R515)
  | set4C -- CB E1 SET 4,C (R515)
  | set4D -- CB E2 SET 4,D (R515)
  | set4E -- CB E3 SET 4,E (R515)
  | set4H -- CB E4 SET 4,H (R515)
  | set4L -- CB E5 SET 4,L (R515)
  | set4AtHl -- CB E6 SET 4,(HL) (R515)
  | set4A -- CB E7 SET 4,A (R515)
  | set5B -- CB E8 SET 5,B (R515)
  | set5C -- CB E9 SET 5,C (R515)
  | set5D -- CB EA SET 5,D (R515)
  | set5E -- CB EB SET 5,E (R515)
  | set5H -- CB EC SET 5,H (R515)
  | set5L -- CB ED SET 5,L (R515)
  | set5AtHl -- CB EE SET 5,(HL) (R515)
  | set5A -- CB EF SET 5,A (R515)
  | set6B -- CB F0 SET 6,B (R515)
  | set6C -- CB F1 SET 6,C (R515)
  | set6D -- CB F2 SET 6,D (R515)
  | set6E -- CB F3 SET 6,E (R515)
  | set6H -- CB F4 SET 6,H (R515)
  | set6L -- CB F5 SET 6,L (R515)
  | set6AtHl -- CB F6 SET 6,(HL) (R515)
  | set6A -- CB F7 SET 6,A (R515)
  | set7B -- CB F8 SET 7,B (R515)
  | set7C -- CB F9 SET 7,C (R515)
  | set7D -- CB FA SET 7,D (R515)
  | set7E -- CB FB SET 7,E (R515)
  | set7H -- CB FC SET 7,H (R515)
  | set7L -- CB FD SET 7,L (R515)
  | set7AtHl -- CB FE SET 7,(HL) (R515)
  | set7A -- CB FF SET 7,A (R515)
deriving DecidableEq, Repr

end Sys2Proof
end

