-- ==== Sys2Proof/Decode.lean ====
section
/-! DEFINITION. The decoder (spec/30_encoding.md R230, R231, R240 to R245) and, after it, the encoder from the
same tables. The decoder is total on any bytes and reads no machine state (R245); a byte string that
ends inside an instruction is refused by name. -/

namespace Sys2Proof

/-- Why a byte string is no instruction: every first byte is a row of the table (R244), so only a
string that ends too early is refused. -/
inductive DecodeError where
  | empty
  | truncated (opcode : Byte)
deriving DecidableEq, Repr

/-- The CB table (R241), indexed by the byte after 0xCB. -/
def decodeCb (o : Byte) : Instr :=
  match o.toNat with
  | 0x00 => .rlcB
  | 0x01 => .rlcC
  | 0x02 => .rlcD
  | 0x03 => .rlcE
  | 0x04 => .rlcH
  | 0x05 => .rlcL
  | 0x06 => .rlcAtHl
  | 0x07 => .rlcA
  | 0x08 => .rrcB
  | 0x09 => .rrcC
  | 0x0A => .rrcD
  | 0x0B => .rrcE
  | 0x0C => .rrcH
  | 0x0D => .rrcL
  | 0x0E => .rrcAtHl
  | 0x0F => .rrcA
  | 0x10 => .rlB
  | 0x11 => .rlC
  | 0x12 => .rlD
  | 0x13 => .rlE
  | 0x14 => .rlH
  | 0x15 => .rlL
  | 0x16 => .rlAtHl
  | 0x17 => .rlA
  | 0x18 => .rrB
  | 0x19 => .rrC
  | 0x1A => .rrD
  | 0x1B => .rrE
  | 0x1C => .rrH
  | 0x1D => .rrL
  | 0x1E => .rrAtHl
  | 0x1F => .rrA
  | 0x20 => .slaB
  | 0x21 => .slaC
  | 0x22 => .slaD
  | 0x23 => .slaE
  | 0x24 => .slaH
  | 0x25 => .slaL
  | 0x26 => .slaAtHl
  | 0x27 => .slaA
  | 0x28 => .sraB
  | 0x29 => .sraC
  | 0x2A => .sraD
  | 0x2B => .sraE
  | 0x2C => .sraH
  | 0x2D => .sraL
  | 0x2E => .sraAtHl
  | 0x2F => .sraA
  | 0x30 => .swapB
  | 0x31 => .swapC
  | 0x32 => .swapD
  | 0x33 => .swapE
  | 0x34 => .swapH
  | 0x35 => .swapL
  | 0x36 => .swapAtHl
  | 0x37 => .swapA
  | 0x38 => .srlB
  | 0x39 => .srlC
  | 0x3A => .srlD
  | 0x3B => .srlE
  | 0x3C => .srlH
  | 0x3D => .srlL
  | 0x3E => .srlAtHl
  | 0x3F => .srlA
  | 0x40 => .bit0B
  | 0x41 => .bit0C
  | 0x42 => .bit0D
  | 0x43 => .bit0E
  | 0x44 => .bit0H
  | 0x45 => .bit0L
  | 0x46 => .bit0AtHl
  | 0x47 => .bit0A
  | 0x48 => .bit1B
  | 0x49 => .bit1C
  | 0x4A => .bit1D
  | 0x4B => .bit1E
  | 0x4C => .bit1H
  | 0x4D => .bit1L
  | 0x4E => .bit1AtHl
  | 0x4F => .bit1A
  | 0x50 => .bit2B
  | 0x51 => .bit2C
  | 0x52 => .bit2D
  | 0x53 => .bit2E
  | 0x54 => .bit2H
  | 0x55 => .bit2L
  | 0x56 => .bit2AtHl
  | 0x57 => .bit2A
  | 0x58 => .bit3B
  | 0x59 => .bit3C
  | 0x5A => .bit3D
  | 0x5B => .bit3E
  | 0x5C => .bit3H
  | 0x5D => .bit3L
  | 0x5E => .bit3AtHl
  | 0x5F => .bit3A
  | 0x60 => .bit4B
  | 0x61 => .bit4C
  | 0x62 => .bit4D
  | 0x63 => .bit4E
  | 0x64 => .bit4H
  | 0x65 => .bit4L
  | 0x66 => .bit4AtHl
  | 0x67 => .bit4A
  | 0x68 => .bit5B
  | 0x69 => .bit5C
  | 0x6A => .bit5D
  | 0x6B => .bit5E
  | 0x6C => .bit5H
  | 0x6D => .bit5L
  | 0x6E => .bit5AtHl
  | 0x6F => .bit5A
  | 0x70 => .bit6B
  | 0x71 => .bit6C
  | 0x72 => .bit6D
  | 0x73 => .bit6E
  | 0x74 => .bit6H
  | 0x75 => .bit6L
  | 0x76 => .bit6AtHl
  | 0x77 => .bit6A
  | 0x78 => .bit7B
  | 0x79 => .bit7C
  | 0x7A => .bit7D
  | 0x7B => .bit7E
  | 0x7C => .bit7H
  | 0x7D => .bit7L
  | 0x7E => .bit7AtHl
  | 0x7F => .bit7A
  | 0x80 => .res0B
  | 0x81 => .res0C
  | 0x82 => .res0D
  | 0x83 => .res0E
  | 0x84 => .res0H
  | 0x85 => .res0L
  | 0x86 => .res0AtHl
  | 0x87 => .res0A
  | 0x88 => .res1B
  | 0x89 => .res1C
  | 0x8A => .res1D
  | 0x8B => .res1E
  | 0x8C => .res1H
  | 0x8D => .res1L
  | 0x8E => .res1AtHl
  | 0x8F => .res1A
  | 0x90 => .res2B
  | 0x91 => .res2C
  | 0x92 => .res2D
  | 0x93 => .res2E
  | 0x94 => .res2H
  | 0x95 => .res2L
  | 0x96 => .res2AtHl
  | 0x97 => .res2A
  | 0x98 => .res3B
  | 0x99 => .res3C
  | 0x9A => .res3D
  | 0x9B => .res3E
  | 0x9C => .res3H
  | 0x9D => .res3L
  | 0x9E => .res3AtHl
  | 0x9F => .res3A
  | 0xA0 => .res4B
  | 0xA1 => .res4C
  | 0xA2 => .res4D
  | 0xA3 => .res4E
  | 0xA4 => .res4H
  | 0xA5 => .res4L
  | 0xA6 => .res4AtHl
  | 0xA7 => .res4A
  | 0xA8 => .res5B
  | 0xA9 => .res5C
  | 0xAA => .res5D
  | 0xAB => .res5E
  | 0xAC => .res5H
  | 0xAD => .res5L
  | 0xAE => .res5AtHl
  | 0xAF => .res5A
  | 0xB0 => .res6B
  | 0xB1 => .res6C
  | 0xB2 => .res6D
  | 0xB3 => .res6E
  | 0xB4 => .res6H
  | 0xB5 => .res6L
  | 0xB6 => .res6AtHl
  | 0xB7 => .res6A
  | 0xB8 => .res7B
  | 0xB9 => .res7C
  | 0xBA => .res7D
  | 0xBB => .res7E
  | 0xBC => .res7H
  | 0xBD => .res7L
  | 0xBE => .res7AtHl
  | 0xBF => .res7A
  | 0xC0 => .set0B
  | 0xC1 => .set0C
  | 0xC2 => .set0D
  | 0xC3 => .set0E
  | 0xC4 => .set0H
  | 0xC5 => .set0L
  | 0xC6 => .set0AtHl
  | 0xC7 => .set0A
  | 0xC8 => .set1B
  | 0xC9 => .set1C
  | 0xCA => .set1D
  | 0xCB => .set1E
  | 0xCC => .set1H
  | 0xCD => .set1L
  | 0xCE => .set1AtHl
  | 0xCF => .set1A
  | 0xD0 => .set2B
  | 0xD1 => .set2C
  | 0xD2 => .set2D
  | 0xD3 => .set2E
  | 0xD4 => .set2H
  | 0xD5 => .set2L
  | 0xD6 => .set2AtHl
  | 0xD7 => .set2A
  | 0xD8 => .set3B
  | 0xD9 => .set3C
  | 0xDA => .set3D
  | 0xDB => .set3E
  | 0xDC => .set3H
  | 0xDD => .set3L
  | 0xDE => .set3AtHl
  | 0xDF => .set3A
  | 0xE0 => .set4B
  | 0xE1 => .set4C
  | 0xE2 => .set4D
  | 0xE3 => .set4E
  | 0xE4 => .set4H
  | 0xE5 => .set4L
  | 0xE6 => .set4AtHl
  | 0xE7 => .set4A
  | 0xE8 => .set5B
  | 0xE9 => .set5C
  | 0xEA => .set5D
  | 0xEB => .set5E
  | 0xEC => .set5H
  | 0xED => .set5L
  | 0xEE => .set5AtHl
  | 0xEF => .set5A
  | 0xF0 => .set6B
  | 0xF1 => .set6C
  | 0xF2 => .set6D
  | 0xF3 => .set6E
  | 0xF4 => .set6H
  | 0xF5 => .set6L
  | 0xF6 => .set6AtHl
  | 0xF7 => .set6A
  | 0xF8 => .set7B
  | 0xF9 => .set7C
  | 0xFA => .set7D
  | 0xFB => .set7E
  | 0xFC => .set7H
  | 0xFD => .set7L
  | 0xFE => .set7AtHl
  | _ => .set7A

/-- The primary table (R240) on the opcode byte `b0`; `b1` and `b2` are the two bytes after it, read
only by the formats that have them (R231). A 16-bit operand is `{b2, b1}` (R236). -/
def decode3 (b0 b1 b2 : Byte) : Instr :=
  match b0.toNat with
  | 0x00 => .nop
  | 0x01 => .ldBcD16 (mkWord b2 b1)
  | 0x02 => .ldAtBcA
  | 0x03 => .incBc
  | 0x04 => .incB
  | 0x05 => .decB
  | 0x06 => .ldBD8 b1
  | 0x07 => .rlca
  | 0x08 => .ldAtA16Sp (mkWord b2 b1)
  | 0x09 => .addHlBc
  | 0x0A => .ldAAtBc
  | 0x0B => .decBc
  | 0x0C => .incC
  | 0x0D => .decC
  | 0x0E => .ldCD8 b1
  | 0x0F => .rrca
  | 0x10 => .stop b1
  | 0x11 => .ldDeD16 (mkWord b2 b1)
  | 0x12 => .ldAtDeA
  | 0x13 => .incDe
  | 0x14 => .incD
  | 0x15 => .decD
  | 0x16 => .ldDD8 b1
  | 0x17 => .rla
  | 0x18 => .jrE8 b1
  | 0x19 => .addHlDe
  | 0x1A => .ldAAtDe
  | 0x1B => .decDe
  | 0x1C => .incE
  | 0x1D => .decE
  | 0x1E => .ldED8 b1
  | 0x1F => .rra
  | 0x20 => .jrNzE8 b1
  | 0x21 => .ldHlD16 (mkWord b2 b1)
  | 0x22 => .ldAtHliA
  | 0x23 => .incHl
  | 0x24 => .incH
  | 0x25 => .decH
  | 0x26 => .ldHD8 b1
  | 0x27 => .daa
  | 0x28 => .jrZE8 b1
  | 0x29 => .addHlHl
  | 0x2A => .ldAAtHli
  | 0x2B => .decHl
  | 0x2C => .incL
  | 0x2D => .decL
  | 0x2E => .ldLD8 b1
  | 0x2F => .cpl
  | 0x30 => .jrNcE8 b1
  | 0x31 => .ldSpD16 (mkWord b2 b1)
  | 0x32 => .ldAtHldA
  | 0x33 => .incSp
  | 0x34 => .incAtHl
  | 0x35 => .decAtHl
  | 0x36 => .ldAtHlD8 b1
  | 0x37 => .scf
  | 0x38 => .jrCE8 b1
  | 0x39 => .addHlSp
  | 0x3A => .ldAAtHld
  | 0x3B => .decSp
  | 0x3C => .incA
  | 0x3D => .decA
  | 0x3E => .ldAD8 b1
  | 0x3F => .ccf
  | 0x40 => .ldBB
  | 0x41 => .ldBC
  | 0x42 => .ldBD
  | 0x43 => .ldBE
  | 0x44 => .ldBH
  | 0x45 => .ldBL
  | 0x46 => .ldBAtHl
  | 0x47 => .ldBA
  | 0x48 => .ldCB
  | 0x49 => .ldCC
  | 0x4A => .ldCD
  | 0x4B => .ldCE
  | 0x4C => .ldCH
  | 0x4D => .ldCL
  | 0x4E => .ldCAtHl
  | 0x4F => .ldCA
  | 0x50 => .ldDB
  | 0x51 => .ldDC
  | 0x52 => .ldDD
  | 0x53 => .ldDE
  | 0x54 => .ldDH
  | 0x55 => .ldDL
  | 0x56 => .ldDAtHl
  | 0x57 => .ldDA
  | 0x58 => .ldEB
  | 0x59 => .ldEC
  | 0x5A => .ldED
  | 0x5B => .ldEE
  | 0x5C => .ldEH
  | 0x5D => .ldEL
  | 0x5E => .ldEAtHl
  | 0x5F => .ldEA
  | 0x60 => .ldHB
  | 0x61 => .ldHC
  | 0x62 => .ldHD
  | 0x63 => .ldHE
  | 0x64 => .ldHH
  | 0x65 => .ldHL
  | 0x66 => .ldHAtHl
  | 0x67 => .ldHA
  | 0x68 => .ldLB
  | 0x69 => .ldLC
  | 0x6A => .ldLD
  | 0x6B => .ldLE
  | 0x6C => .ldLH
  | 0x6D => .ldLL
  | 0x6E => .ldLAtHl
  | 0x6F => .ldLA
  | 0x70 => .ldAtHlB
  | 0x71 => .ldAtHlC
  | 0x72 => .ldAtHlD
  | 0x73 => .ldAtHlE
  | 0x74 => .ldAtHlH
  | 0x75 => .ldAtHlL
  | 0x76 => .halt
  | 0x77 => .ldAtHlA
  | 0x78 => .ldAB
  | 0x79 => .ldAC
  | 0x7A => .ldAD
  | 0x7B => .ldAE
  | 0x7C => .ldAH
  | 0x7D => .ldAL
  | 0x7E => .ldAAtHl
  | 0x7F => .ldAA
  | 0x80 => .addAB
  | 0x81 => .addAC
  | 0x82 => .addAD
  | 0x83 => .addAE
  | 0x84 => .addAH
  | 0x85 => .addAL
  | 0x86 => .addAAtHl
  | 0x87 => .addAA
  | 0x88 => .adcAB
  | 0x89 => .adcAC
  | 0x8A => .adcAD
  | 0x8B => .adcAE
  | 0x8C => .adcAH
  | 0x8D => .adcAL
  | 0x8E => .adcAAtHl
  | 0x8F => .adcAA
  | 0x90 => .subB
  | 0x91 => .subC
  | 0x92 => .subD
  | 0x93 => .subE
  | 0x94 => .subH
  | 0x95 => .subL
  | 0x96 => .subAtHl
  | 0x97 => .subA
  | 0x98 => .sbcAB
  | 0x99 => .sbcAC
  | 0x9A => .sbcAD
  | 0x9B => .sbcAE
  | 0x9C => .sbcAH
  | 0x9D => .sbcAL
  | 0x9E => .sbcAAtHl
  | 0x9F => .sbcAA
  | 0xA0 => .andB
  | 0xA1 => .andC
  | 0xA2 => .andD
  | 0xA3 => .andE
  | 0xA4 => .andH
  | 0xA5 => .andL
  | 0xA6 => .andAtHl
  | 0xA7 => .andA
  | 0xA8 => .xorB
  | 0xA9 => .xorC
  | 0xAA => .xorD
  | 0xAB => .xorE
  | 0xAC => .xorH
  | 0xAD => .xorL
  | 0xAE => .xorAtHl
  | 0xAF => .xorA
  | 0xB0 => .orB
  | 0xB1 => .orC
  | 0xB2 => .orD
  | 0xB3 => .orE
  | 0xB4 => .orH
  | 0xB5 => .orL
  | 0xB6 => .orAtHl
  | 0xB7 => .orA
  | 0xB8 => .cpB
  | 0xB9 => .cpC
  | 0xBA => .cpD
  | 0xBB => .cpE
  | 0xBC => .cpH
  | 0xBD => .cpL
  | 0xBE => .cpAtHl
  | 0xBF => .cpA
  | 0xC0 => .retNz
  | 0xC1 => .popBc
  | 0xC2 => .jpNzA16 (mkWord b2 b1)
  | 0xC3 => .jpA16 (mkWord b2 b1)
  | 0xC4 => .callNzA16 (mkWord b2 b1)
  | 0xC5 => .pushBc
  | 0xC6 => .addAD8 b1
  | 0xC7 => .rst00
  | 0xC8 => .retZ
  | 0xC9 => .ret
  | 0xCA => .jpZA16 (mkWord b2 b1)
  | 0xCB => decodeCb b1
  | 0xCC => .callZA16 (mkWord b2 b1)
  | 0xCD => .callA16 (mkWord b2 b1)
  | 0xCE => .adcAD8 b1
  | 0xCF => .rst08
  | 0xD0 => .retNc
  | 0xD1 => .popDe
  | 0xD2 => .jpNcA16 (mkWord b2 b1)
  | 0xD3 => .undefinedD3
  | 0xD4 => .callNcA16 (mkWord b2 b1)
  | 0xD5 => .pushDe
  | 0xD6 => .subD8 b1
  | 0xD7 => .rst10
  | 0xD8 => .retC
  | 0xD9 => .reti
  | 0xDA => .jpCA16 (mkWord b2 b1)
  | 0xDB => .undefinedDB
  | 0xDC => .callCA16 (mkWord b2 b1)
  | 0xDD => .undefinedDD
  | 0xDE => .sbcAD8 b1
  | 0xDF => .rst18
  | 0xE0 => .ldhAtA8A b1
  | 0xE1 => .popHl
  | 0xE2 => .ldAtCA
  | 0xE3 => .undefinedE3
  | 0xE4 => .undefinedE4
  | 0xE5 => .pushHl
  | 0xE6 => .andD8 b1
  | 0xE7 => .rst20
  | 0xE8 => .addSpE8 b1
  | 0xE9 => .jpHl
  | 0xEA => .ldAtA16A (mkWord b2 b1)
  | 0xEB => .undefinedEB
  | 0xEC => .undefinedEC
  | 0xED => .undefinedED
  | 0xEE => .xorD8 b1
  | 0xEF => .rst28
  | 0xF0 => .ldhAAtA8 b1
  | 0xF1 => .popAf
  | 0xF2 => .ldAAtC
  | 0xF3 => .di
  | 0xF4 => .undefinedF4
  | 0xF5 => .pushAf
  | 0xF6 => .orD8 b1
  | 0xF7 => .rst30
  | 0xF8 => .ldHlSpE8 b1
  | 0xF9 => .ldSpHl
  | 0xFA => .ldAAtA16 (mkWord b2 b1)
  | 0xFB => .ei
  | 0xFC => .undefinedFC
  | 0xFD => .undefinedFD
  | 0xFE => .cpD8 b1
  | _ => .rst38

/-- The bytes of an instruction, lowest address first (R231, R240, R241). `prefixCb o2` is the row
`PREFIX CB` with its second byte: the same bytes as the CB row `o2` (R601, log 10). -/
def encode (i : Instr) : List Byte :=
  match i with
  | .ldBcD16 nn => [0x01, loByte nn, hiByte nn]
  | .ldBD8 n => [0x06, n]
  | .ldAtA16Sp a => [0x08, loByte a, hiByte a]
  | .ldCD8 n => [0x0E, n]
  | .stop x => [0x10, x]
  | .ldDeD16 nn => [0x11, loByte nn, hiByte nn]
  | .ldDD8 n => [0x16, n]
  | .jrE8 e => [0x18, e]
  | .ldED8 n => [0x1E, n]
  | .jrNzE8 e => [0x20, e]
  | .ldHlD16 nn => [0x21, loByte nn, hiByte nn]
  | .ldHD8 n => [0x26, n]
  | .jrZE8 e => [0x28, e]
  | .ldLD8 n => [0x2E, n]
  | .jrNcE8 e => [0x30, e]
  | .ldSpD16 nn => [0x31, loByte nn, hiByte nn]
  | .ldAtHlD8 n => [0x36, n]
  | .jrCE8 e => [0x38, e]
  | .ldAD8 n => [0x3E, n]
  | .jpNzA16 a => [0xC2, loByte a, hiByte a]
  | .jpA16 a => [0xC3, loByte a, hiByte a]
  | .callNzA16 a => [0xC4, loByte a, hiByte a]
  | .addAD8 n => [0xC6, n]
  | .jpZA16 a => [0xCA, loByte a, hiByte a]
  | .prefixCb o2 => [0xCB, o2]
  | .callZA16 a => [0xCC, loByte a, hiByte a]
  | .callA16 a => [0xCD, loByte a, hiByte a]
  | .adcAD8 n => [0xCE, n]
  | .jpNcA16 a => [0xD2, loByte a, hiByte a]
  | .callNcA16 a => [0xD4, loByte a, hiByte a]
  | .subD8 n => [0xD6, n]
  | .jpCA16 a => [0xDA, loByte a, hiByte a]
  | .callCA16 a => [0xDC, loByte a, hiByte a]
  | .sbcAD8 n => [0xDE, n]
  | .ldhAtA8A n => [0xE0, n]
  | .andD8 n => [0xE6, n]
  | .addSpE8 e => [0xE8, e]
  | .ldAtA16A a => [0xEA, loByte a, hiByte a]
  | .xorD8 n => [0xEE, n]
  | .ldhAAtA8 n => [0xF0, n]
  | .orD8 n => [0xF6, n]
  | .ldHlSpE8 e => [0xF8, e]
  | .ldAAtA16 a => [0xFA, loByte a, hiByte a]
  | .cpD8 n => [0xFE, n]
  | .nop => [0x00]
  | .ldAtBcA => [0x02]
  | .incBc => [0x03]
  | .incB => [0x04]
  | .decB => [0x05]
  | .rlca => [0x07]
  | .addHlBc => [0x09]
  | .ldAAtBc => [0x0A]
  | .decBc => [0x0B]
  | .incC => [0x0C]
  | .decC => [0x0D]
  | .rrca => [0x0F]
  | .ldAtDeA => [0x12]
  | .incDe => [0x13]
  | .incD => [0x14]
  | .decD => [0x15]
  | .rla => [0x17]
  | .addHlDe => [0x19]
  | .ldAAtDe => [0x1A]
  | .decDe => [0x1B]
  | .incE => [0x1C]
  | .decE => [0x1D]
  | .rra => [0x1F]
  | .ldAtHliA => [0x22]
  | .incHl => [0x23]
  | .incH => [0x24]
  | .decH => [0x25]
  | .daa => [0x27]
  | .addHlHl => [0x29]
  | .ldAAtHli => [0x2A]
  | .decHl => [0x2B]
  | .incL => [0x2C]
  | .decL => [0x2D]
  | .cpl => [0x2F]
  | .ldAtHldA => [0x32]
  | .incSp => [0x33]
  | .incAtHl => [0x34]
  | .decAtHl => [0x35]
  | .scf => [0x37]
  | .addHlSp => [0x39]
  | .ldAAtHld => [0x3A]
  | .decSp => [0x3B]
  | .incA => [0x3C]
  | .decA => [0x3D]
  | .ccf => [0x3F]
  | .ldBB => [0x40]
  | .ldBC => [0x41]
  | .ldBD => [0x42]
  | .ldBE => [0x43]
  | .ldBH => [0x44]
  | .ldBL => [0x45]
  | .ldBAtHl => [0x46]
  | .ldBA => [0x47]
  | .ldCB => [0x48]
  | .ldCC => [0x49]
  | .ldCD => [0x4A]
  | .ldCE => [0x4B]
  | .ldCH => [0x4C]
  | .ldCL => [0x4D]
  | .ldCAtHl => [0x4E]
  | .ldCA => [0x4F]
  | .ldDB => [0x50]
  | .ldDC => [0x51]
  | .ldDD => [0x52]
  | .ldDE => [0x53]
  | .ldDH => [0x54]
  | .ldDL => [0x55]
  | .ldDAtHl => [0x56]
  | .ldDA => [0x57]
  | .ldEB => [0x58]
  | .ldEC => [0x59]
  | .ldED => [0x5A]
  | .ldEE => [0x5B]
  | .ldEH => [0x5C]
  | .ldEL => [0x5D]
  | .ldEAtHl => [0x5E]
  | .ldEA => [0x5F]
  | .ldHB => [0x60]
  | .ldHC => [0x61]
  | .ldHD => [0x62]
  | .ldHE => [0x63]
  | .ldHH => [0x64]
  | .ldHL => [0x65]
  | .ldHAtHl => [0x66]
  | .ldHA => [0x67]
  | .ldLB => [0x68]
  | .ldLC => [0x69]
  | .ldLD => [0x6A]
  | .ldLE => [0x6B]
  | .ldLH => [0x6C]
  | .ldLL => [0x6D]
  | .ldLAtHl => [0x6E]
  | .ldLA => [0x6F]
  | .ldAtHlB => [0x70]
  | .ldAtHlC => [0x71]
  | .ldAtHlD => [0x72]
  | .ldAtHlE => [0x73]
  | .ldAtHlH => [0x74]
  | .ldAtHlL => [0x75]
  | .halt => [0x76]
  | .ldAtHlA => [0x77]
  | .ldAB => [0x78]
  | .ldAC => [0x79]
  | .ldAD => [0x7A]
  | .ldAE => [0x7B]
  | .ldAH => [0x7C]
  | .ldAL => [0x7D]
  | .ldAAtHl => [0x7E]
  | .ldAA => [0x7F]
  | .addAB => [0x80]
  | .addAC => [0x81]
  | .addAD => [0x82]
  | .addAE => [0x83]
  | .addAH => [0x84]
  | .addAL => [0x85]
  | .addAAtHl => [0x86]
  | .addAA => [0x87]
  | .adcAB => [0x88]
  | .adcAC => [0x89]
  | .adcAD => [0x8A]
  | .adcAE => [0x8B]
  | .adcAH => [0x8C]
  | .adcAL => [0x8D]
  | .adcAAtHl => [0x8E]
  | .adcAA => [0x8F]
  | .subB => [0x90]
  | .subC => [0x91]
  | .subD => [0x92]
  | .subE => [0x93]
  | .subH => [0x94]
  | .subL => [0x95]
  | .subAtHl => [0x96]
  | .subA => [0x97]
  | .sbcAB => [0x98]
  | .sbcAC => [0x99]
  | .sbcAD => [0x9A]
  | .sbcAE => [0x9B]
  | .sbcAH => [0x9C]
  | .sbcAL => [0x9D]
  | .sbcAAtHl => [0x9E]
  | .sbcAA => [0x9F]
  | .andB => [0xA0]
  | .andC => [0xA1]
  | .andD => [0xA2]
  | .andE => [0xA3]
  | .andH => [0xA4]
  | .andL => [0xA5]
  | .andAtHl => [0xA6]
  | .andA => [0xA7]
  | .xorB => [0xA8]
  | .xorC => [0xA9]
  | .xorD => [0xAA]
  | .xorE => [0xAB]
  | .xorH => [0xAC]
  | .xorL => [0xAD]
  | .xorAtHl => [0xAE]
  | .xorA => [0xAF]
  | .orB => [0xB0]
  | .orC => [0xB1]
  | .orD => [0xB2]
  | .orE => [0xB3]
  | .orH => [0xB4]
  | .orL => [0xB5]
  | .orAtHl => [0xB6]
  | .orA => [0xB7]
  | .cpB => [0xB8]
  | .cpC => [0xB9]
  | .cpD => [0xBA]
  | .cpE => [0xBB]
  | .cpH => [0xBC]
  | .cpL => [0xBD]
  | .cpAtHl => [0xBE]
  | .cpA => [0xBF]
  | .retNz => [0xC0]
  | .popBc => [0xC1]
  | .pushBc => [0xC5]
  | .rst00 => [0xC7]
  | .retZ => [0xC8]
  | .ret => [0xC9]
  | .rst08 => [0xCF]
  | .retNc => [0xD0]
  | .popDe => [0xD1]
  | .undefinedD3 => [0xD3]
  | .pushDe => [0xD5]
  | .rst10 => [0xD7]
  | .retC => [0xD8]
  | .reti => [0xD9]
  | .undefinedDB => [0xDB]
  | .undefinedDD => [0xDD]
  | .rst18 => [0xDF]
  | .popHl => [0xE1]
  | .ldAtCA => [0xE2]
  | .undefinedE3 => [0xE3]
  | .undefinedE4 => [0xE4]
  | .pushHl => [0xE5]
  | .rst20 => [0xE7]
  | .jpHl => [0xE9]
  | .undefinedEB => [0xEB]
  | .undefinedEC => [0xEC]
  | .undefinedED => [0xED]
  | .rst28 => [0xEF]
  | .popAf => [0xF1]
  | .ldAAtC => [0xF2]
  | .di => [0xF3]
  | .undefinedF4 => [0xF4]
  | .pushAf => [0xF5]
  | .rst30 => [0xF7]
  | .ldSpHl => [0xF9]
  | .ei => [0xFB]
  | .undefinedFC => [0xFC]
  | .undefinedFD => [0xFD]
  | .rst38 => [0xFF]
  | .rlcB => [0xCB, 0x00]
  | .rlcC => [0xCB, 0x01]
  | .rlcD => [0xCB, 0x02]
  | .rlcE => [0xCB, 0x03]
  | .rlcH => [0xCB, 0x04]
  | .rlcL => [0xCB, 0x05]
  | .rlcAtHl => [0xCB, 0x06]
  | .rlcA => [0xCB, 0x07]
  | .rrcB => [0xCB, 0x08]
  | .rrcC => [0xCB, 0x09]
  | .rrcD => [0xCB, 0x0A]
  | .rrcE => [0xCB, 0x0B]
  | .rrcH => [0xCB, 0x0C]
  | .rrcL => [0xCB, 0x0D]
  | .rrcAtHl => [0xCB, 0x0E]
  | .rrcA => [0xCB, 0x0F]
  | .rlB => [0xCB, 0x10]
  | .rlC => [0xCB, 0x11]
  | .rlD => [0xCB, 0x12]
  | .rlE => [0xCB, 0x13]
  | .rlH => [0xCB, 0x14]
  | .rlL => [0xCB, 0x15]
  | .rlAtHl => [0xCB, 0x16]
  | .rlA => [0xCB, 0x17]
  | .rrB => [0xCB, 0x18]
  | .rrC => [0xCB, 0x19]
  | .rrD => [0xCB, 0x1A]
  | .rrE => [0xCB, 0x1B]
  | .rrH => [0xCB, 0x1C]
  | .rrL => [0xCB, 0x1D]
  | .rrAtHl => [0xCB, 0x1E]
  | .rrA => [0xCB, 0x1F]
  | .slaB => [0xCB, 0x20]
  | .slaC => [0xCB, 0x21]
  | .slaD => [0xCB, 0x22]
  | .slaE => [0xCB, 0x23]
  | .slaH => [0xCB, 0x24]
  | .slaL => [0xCB, 0x25]
  | .slaAtHl => [0xCB, 0x26]
  | .slaA => [0xCB, 0x27]
  | .sraB => [0xCB, 0x28]
  | .sraC => [0xCB, 0x29]
  | .sraD => [0xCB, 0x2A]
  | .sraE => [0xCB, 0x2B]
  | .sraH => [0xCB, 0x2C]
  | .sraL => [0xCB, 0x2D]
  | .sraAtHl => [0xCB, 0x2E]
  | .sraA => [0xCB, 0x2F]
  | .swapB => [0xCB, 0x30]
  | .swapC => [0xCB, 0x31]
  | .swapD => [0xCB, 0x32]
  | .swapE => [0xCB, 0x33]
  | .swapH => [0xCB, 0x34]
  | .swapL => [0xCB, 0x35]
  | .swapAtHl => [0xCB, 0x36]
  | .swapA => [0xCB, 0x37]
  | .srlB => [0xCB, 0x38]
  | .srlC => [0xCB, 0x39]
  | .srlD => [0xCB, 0x3A]
  | .srlE => [0xCB, 0x3B]
  | .srlH => [0xCB, 0x3C]
  | .srlL => [0xCB, 0x3D]
  | .srlAtHl => [0xCB, 0x3E]
  | .srlA => [0xCB, 0x3F]
  | .bit0B => [0xCB, 0x40]
  | .bit0C => [0xCB, 0x41]
  | .bit0D => [0xCB, 0x42]
  | .bit0E => [0xCB, 0x43]
  | .bit0H => [0xCB, 0x44]
  | .bit0L => [0xCB, 0x45]
  | .bit0AtHl => [0xCB, 0x46]
  | .bit0A => [0xCB, 0x47]
  | .bit1B => [0xCB, 0x48]
  | .bit1C => [0xCB, 0x49]
  | .bit1D => [0xCB, 0x4A]
  | .bit1E => [0xCB, 0x4B]
  | .bit1H => [0xCB, 0x4C]
  | .bit1L => [0xCB, 0x4D]
  | .bit1AtHl => [0xCB, 0x4E]
  | .bit1A => [0xCB, 0x4F]
  | .bit2B => [0xCB, 0x50]
  | .bit2C => [0xCB, 0x51]
  | .bit2D => [0xCB, 0x52]
  | .bit2E => [0xCB, 0x53]
  | .bit2H => [0xCB, 0x54]
  | .bit2L => [0xCB, 0x55]
  | .bit2AtHl => [0xCB, 0x56]
  | .bit2A => [0xCB, 0x57]
  | .bit3B => [0xCB, 0x58]
  | .bit3C => [0xCB, 0x59]
  | .bit3D => [0xCB, 0x5A]
  | .bit3E => [0xCB, 0x5B]
  | .bit3H => [0xCB, 0x5C]
  | .bit3L => [0xCB, 0x5D]
  | .bit3AtHl => [0xCB, 0x5E]
  | .bit3A => [0xCB, 0x5F]
  | .bit4B => [0xCB, 0x60]
  | .bit4C => [0xCB, 0x61]
  | .bit4D => [0xCB, 0x62]
  | .bit4E => [0xCB, 0x63]
  | .bit4H => [0xCB, 0x64]
  | .bit4L => [0xCB, 0x65]
  | .bit4AtHl => [0xCB, 0x66]
  | .bit4A => [0xCB, 0x67]
  | .bit5B => [0xCB, 0x68]
  | .bit5C => [0xCB, 0x69]
  | .bit5D => [0xCB, 0x6A]
  | .bit5E => [0xCB, 0x6B]
  | .bit5H => [0xCB, 0x6C]
  | .bit5L => [0xCB, 0x6D]
  | .bit5AtHl => [0xCB, 0x6E]
  | .bit5A => [0xCB, 0x6F]
  | .bit6B => [0xCB, 0x70]
  | .bit6C => [0xCB, 0x71]
  | .bit6D => [0xCB, 0x72]
  | .bit6E => [0xCB, 0x73]
  | .bit6H => [0xCB, 0x74]
  | .bit6L => [0xCB, 0x75]
  | .bit6AtHl => [0xCB, 0x76]
  | .bit6A => [0xCB, 0x77]
  | .bit7B => [0xCB, 0x78]
  | .bit7C => [0xCB, 0x79]
  | .bit7D => [0xCB, 0x7A]
  | .bit7E => [0xCB, 0x7B]
  | .bit7H => [0xCB, 0x7C]
  | .bit7L => [0xCB, 0x7D]
  | .bit7AtHl => [0xCB, 0x7E]
  | .bit7A => [0xCB, 0x7F]
  | .res0B => [0xCB, 0x80]
  | .res0C => [0xCB, 0x81]
  | .res0D => [0xCB, 0x82]
  | .res0E => [0xCB, 0x83]
  | .res0H => [0xCB, 0x84]
  | .res0L => [0xCB, 0x85]
  | .res0AtHl => [0xCB, 0x86]
  | .res0A => [0xCB, 0x87]
  | .res1B => [0xCB, 0x88]
  | .res1C => [0xCB, 0x89]
  | .res1D => [0xCB, 0x8A]
  | .res1E => [0xCB, 0x8B]
  | .res1H => [0xCB, 0x8C]
  | .res1L => [0xCB, 0x8D]
  | .res1AtHl => [0xCB, 0x8E]
  | .res1A => [0xCB, 0x8F]
  | .res2B => [0xCB, 0x90]
  | .res2C => [0xCB, 0x91]
  | .res2D => [0xCB, 0x92]
  | .res2E => [0xCB, 0x93]
  | .res2H => [0xCB, 0x94]
  | .res2L => [0xCB, 0x95]
  | .res2AtHl => [0xCB, 0x96]
  | .res2A => [0xCB, 0x97]
  | .res3B => [0xCB, 0x98]
  | .res3C => [0xCB, 0x99]
  | .res3D => [0xCB, 0x9A]
  | .res3E => [0xCB, 0x9B]
  | .res3H => [0xCB, 0x9C]
  | .res3L => [0xCB, 0x9D]
  | .res3AtHl => [0xCB, 0x9E]
  | .res3A => [0xCB, 0x9F]
  | .res4B => [0xCB, 0xA0]
  | .res4C => [0xCB, 0xA1]
  | .res4D => [0xCB, 0xA2]
  | .res4E => [0xCB, 0xA3]
  | .res4H => [0xCB, 0xA4]
  | .res4L => [0xCB, 0xA5]
  | .res4AtHl => [0xCB, 0xA6]
  | .res4A => [0xCB, 0xA7]
  | .res5B => [0xCB, 0xA8]
  | .res5C => [0xCB, 0xA9]
  | .res5D => [0xCB, 0xAA]
  | .res5E => [0xCB, 0xAB]
  | .res5H => [0xCB, 0xAC]
  | .res5L => [0xCB, 0xAD]
  | .res5AtHl => [0xCB, 0xAE]
  | .res5A => [0xCB, 0xAF]
  | .res6B => [0xCB, 0xB0]
  | .res6C => [0xCB, 0xB1]
  | .res6D => [0xCB, 0xB2]
  | .res6E => [0xCB, 0xB3]
  | .res6H => [0xCB, 0xB4]
  | .res6L => [0xCB, 0xB5]
  | .res6AtHl => [0xCB, 0xB6]
  | .res6A => [0xCB, 0xB7]
  | .res7B => [0xCB, 0xB8]
  | .res7C => [0xCB, 0xB9]
  | .res7D => [0xCB, 0xBA]
  | .res7E => [0xCB, 0xBB]
  | .res7H => [0xCB, 0xBC]
  | .res7L => [0xCB, 0xBD]
  | .res7AtHl => [0xCB, 0xBE]
  | .res7A => [0xCB, 0xBF]
  | .set0B => [0xCB, 0xC0]
  | .set0C => [0xCB, 0xC1]
  | .set0D => [0xCB, 0xC2]
  | .set0E => [0xCB, 0xC3]
  | .set0H => [0xCB, 0xC4]
  | .set0L => [0xCB, 0xC5]
  | .set0AtHl => [0xCB, 0xC6]
  | .set0A => [0xCB, 0xC7]
  | .set1B => [0xCB, 0xC8]
  | .set1C => [0xCB, 0xC9]
  | .set1D => [0xCB, 0xCA]
  | .set1E => [0xCB, 0xCB]
  | .set1H => [0xCB, 0xCC]
  | .set1L => [0xCB, 0xCD]
  | .set1AtHl => [0xCB, 0xCE]
  | .set1A => [0xCB, 0xCF]
  | .set2B => [0xCB, 0xD0]
  | .set2C => [0xCB, 0xD1]
  | .set2D => [0xCB, 0xD2]
  | .set2E => [0xCB, 0xD3]
  | .set2H => [0xCB, 0xD4]
  | .set2L => [0xCB, 0xD5]
  | .set2AtHl => [0xCB, 0xD6]
  | .set2A => [0xCB, 0xD7]
  | .set3B => [0xCB, 0xD8]
  | .set3C => [0xCB, 0xD9]
  | .set3D => [0xCB, 0xDA]
  | .set3E => [0xCB, 0xDB]
  | .set3H => [0xCB, 0xDC]
  | .set3L => [0xCB, 0xDD]
  | .set3AtHl => [0xCB, 0xDE]
  | .set3A => [0xCB, 0xDF]
  | .set4B => [0xCB, 0xE0]
  | .set4C => [0xCB, 0xE1]
  | .set4D => [0xCB, 0xE2]
  | .set4E => [0xCB, 0xE3]
  | .set4H => [0xCB, 0xE4]
  | .set4L => [0xCB, 0xE5]
  | .set4AtHl => [0xCB, 0xE6]
  | .set4A => [0xCB, 0xE7]
  | .set5B => [0xCB, 0xE8]
  | .set5C => [0xCB, 0xE9]
  | .set5D => [0xCB, 0xEA]
  | .set5E => [0xCB, 0xEB]
  | .set5H => [0xCB, 0xEC]
  | .set5L => [0xCB, 0xED]
  | .set5AtHl => [0xCB, 0xEE]
  | .set5A => [0xCB, 0xEF]
  | .set6B => [0xCB, 0xF0]
  | .set6C => [0xCB, 0xF1]
  | .set6D => [0xCB, 0xF2]
  | .set6E => [0xCB, 0xF3]
  | .set6H => [0xCB, 0xF4]
  | .set6L => [0xCB, 0xF5]
  | .set6AtHl => [0xCB, 0xF6]
  | .set6A => [0xCB, 0xF7]
  | .set7B => [0xCB, 0xF8]
  | .set7C => [0xCB, 0xF9]
  | .set7D => [0xCB, 0xFA]
  | .set7E => [0xCB, 0xFB]
  | .set7H => [0xCB, 0xFC]
  | .set7L => [0xCB, 0xFD]
  | .set7AtHl => [0xCB, 0xFE]
  | .set7A => [0xCB, 0xFF]

/-- The length in bytes (R230). -/
def Instr.length (i : Instr) : Nat := (encode i).length

/-- The instruction at the head of a byte string and the bytes after it. -/
def decode (bs : List Byte) : Except DecodeError (Instr × List Byte) :=
  match bs with
  | [] => .error .empty
  | b0 :: rest =>
    let i := decode3 b0 (rest.getD 0 0) (rest.getD 1 0)
    if (b0 :: rest).length < i.length then .error (.truncated b0)
    else .ok (i, (b0 :: rest).drop i.length)

/-- The first three bytes of an instruction whose bits spec/opcode_table.json numbers as `w` (R231): a
primary row numbers its opcode byte; a CB row numbers its two opcode bytes with byte 0, the
prefix 0xCB, in the high position. Bits above `nbits` are 0 (log 2). -/
def tableBytes (nbits w : Nat) : Byte × Byte × Byte :=
  let v := w % 2 ^ nbits
  if nbits = 16 ∧ v / 256 = 0xCB then (0xCB, BitVec.ofNat 8 v, 0)
  else (BitVec.ofNat 8 v, BitVec.ofNat 8 (v / 256), BitVec.ofNat 8 (v / 65536))

/-- The instruction the decoder reads from an instruction whose bits are `w`, numbered as the table
numbers them. -/
def decodeTableWord (nbits w : Nat) : Option Instr :=
  let (b0, b1, b2) := tableBytes nbits w
  match decode [b0, b1, b2] with
  | .ok (i, _) => some i
  | .error _ => none

end Sys2Proof
end

