-- ==== Sys2Proof/Config.lean ====
section
/-! DEFINITION. The parameters of spec/00_scope.md R9 that a running machine reads, and the free values behind the
three open ones whose non-default settings the spec does not list (`mode3_len` D30, `render_sample` D34,
`save_flush_policy` D52).
The parameter record is part of `State` (set at construction, never changed by a step), so a
statement about every state holds for every value of every parameter. -/

namespace Sys2Proof

/-- `stop_length` (D8): whether the byte after 0x10 is consumed. -/
inductive StopLength where
  | one | two
deriving DecidableEq, Repr

/-- `dma_cpu_write_policy` (D18, R151): CPU writes outside HRAM while an OAM DMA is active. -/
inductive DmaCpuWrites where
  | performed | droppedOutsideHram
deriving DecidableEq, Repr

/-- `mode3_len` (D30, R784): the default formula, or any function of the line's SCX, window activation
and selected sprites within the bound (then `Config.mode3LenFree`; log 18). -/
inductive Mode3Len where
  | standard | free
deriving DecidableEq, Repr

/-- `render_sample` (D34, R789): the whole line from the state at mode 3 entry; pixel x from the state at the
given number of dots after mode 3 entry (entry x of the list; 0 where it has none; log 17); or each pixel at any
moment of its line's mode 3 (then `Config.sampleFree`). The spec gives the parameter no domain; an offset of the
list past the line's mode 3 is allowed and draws nothing (DESIGN CHOICE, log 33). -/
inductive RenderSample where
  | atEntry
  | atDots (offsets : List Nat)
  | free
deriving DecidableEq, Repr

/-- `save_flush_policy` (D52, R806): which steps flush dirty cartridge RAM. The spec gives the parameter a
default (`onFrame`) and no domain; three fixed settings, and any other choice of steps (then
`Config.flushFree`). Beside each of them the host's `teardown` flushes once more (DESIGN CHOICE, log 30). -/
inductive SaveFlush where
  | onFrame | everyStep | onlyAtTeardown | free
deriving DecidableEq, Repr

/-- The parameters a running machine reads (R9), and `headless_mode` (R805). -/
structure Params where
  stopLength     : StopLength
  tacWriteGlitch : Bool
  dmaCpuWrites   : DmaCpuWrites
  mode3Len       : Mode3Len
  renderSample   : RenderSample
  sampleRate     : Nat
  saveFlush      : SaveFlush
  headless       : Bool
deriving DecidableEq, Repr

/-- The defaults of R9 and 92_eei_decisions.md; `dma_cpu_write_policy`, `sample_rate` and
`headless_mode` have none there (DESIGN CHOICE, log 6). -/
def Params.default : Params where
  stopLength := .two
  tacWriteGlitch := false
  dmaCpuWrites := .performed
  mode3Len := .standard
  renderSample := .atEntry
  sampleRate := 44100
  saveFlush := .onFrame
  headless := false

/-- The free value of R784 (U10): the dots by which mode 3 exceeds 172, at most 117 so that
172 ≤ L ≤ 289, for the line's SCX, whether its window is active, and the four OAM bytes of each
selected sprite. It has no body: no proof can see a value of it (log 18). -/
opaque Config.mode3LenFree : Byte → Bool → List (List Byte) → Fin 118

/-- The free value of `render_sample` (R789, D34): for the number of frames completed, LY and x, the moment at which
the pixel is sampled, in dots after mode 3 entry and taken modulo the line's mode 3 length. It has no body (log 17). -/
opaque Config.sampleFree : Nat → Byte → Nat → Nat

/-- The free value of `save_flush_policy` (R806, D52): whether a step flushes, by the master cycle count it ends at, the
number of frames completed and the number of saves so far. The master cycle count grows in every step, so in one
run this is any set of steps. It has no body (log 30). -/
opaque Config.flushFree : Nat → Nat → Nat → Bool

end Sys2Proof
end

