-- ==== Sys2Proof/Machine/State.lean ====
section
/-! DEFINITION. The machine's state: every piece of state of spec/10_state.md, the cartridge and boot ROM
images, the parameters, and the host's side of the machine (its event queue and what the sinks have
been given). Plain data throughout. `State.reset` is the boot skip of spec/70_reset_and_hazards.md R900. -/

namespace Sys2Proof.Machine

/-- An array of bytes: the cells that differ from 0x00, offsets strictly rising. An unlisted cell is
0x00 (for RAM the spec leaves open: DESIGN CHOICE, log 3). Read and written only by
`Memory.read` and `Memory.write`. -/
abbrev Memory := List Host.Cell

/-- A byte buffer from outside: its length and contents (a ROM image, a boot ROM, a saved RAM). -/
structure Buffer where
  size  : Nat
  bytes : Memory
deriving DecidableEq, Repr

/-- The stored half of F (R51): the low nibble is hardwired zero (R52) and is not stored. -/
structure Flags where
  z : Bool
  n : Bool
  h : Bool
  c : Bool
deriving DecidableEq, Repr

/-- R58. -/
inductive RunState where
  | running | halted | stopped
deriving DecidableEq, Repr

/-- The CPU (R50 to R59). -/
structure Cpu where
  a : Byte
  f : Flags
  b : Byte
  c : Byte
  d : Byte
  e : Byte
  h : Byte
  l : Byte
  sp : Word
  pc : Word
  ime : Bool
  imePending : Bool
  halt : RunState
  fatal : Option (Byte × Word)
deriving DecidableEq, Repr

/-- IE (R71) and bits 4..0 of IF (R70). -/
structure Intr where
  ie : Byte
  iflag : BitVec 5
deriving DecidableEq, Repr

/-- The timer (R76 to R79, R100). -/
structure Timer where
  counter : Word
  tima : Byte
  tma : Byte
  tac : BitVec 3
  reloadCountdown : Nat
deriving DecidableEq, Repr

/-- The OAM DMA engine (R93, R101). -/
structure Dma where
  reg : Byte
  active : Bool
  source : Byte
  index : Nat
deriving DecidableEq, Repr

/-- The PPU's modes (R89): 0, 1, 2, 3. -/
inductive Mode where
  | hblank | vblank | oamScan | drawing
deriving DecidableEq, Repr

/-- One OAM entry as the line's scan took it (R786, R787): its number and four bytes. -/
structure Sprite where
  index : Nat
  y : Byte
  x : Byte
  tile : Byte
  attr : Byte
deriving DecidableEq, Repr

/-- 144 rows of 160 values 0..3 (R102). -/
abbrev Frame := List (List (BitVec 2))

/-- The PPU (R88 to R92, R94 to R96, R102). `statSel` is STAT bits 6..3. -/
structure Ppu where
  lcdc : Byte
  statSel : BitVec 4
  scy : Byte
  scx : Byte
  ly : Byte
  lyc : Byte
  bgp : Byte
  obp0 : Byte
  obp1 : Byte
  wy : Byte
  wx : Byte
  mode : Mode
  dot : Nat
  mode3Len : Nat
  sprites : List Sprite
  windowLine : Nat
  wyLatch : Bool
  windowDrawn : Bool
  prevLyc : Bool
  prevM2 : Bool
  prevM1 : Bool
  prevM0 : Bool
  frame : Frame
deriving DecidableEq, Repr

/-- A square channel (1 or 2): its registers NRx1 to NRx4 (R80, R81) and internals (R103). -/
structure Square where
  nr1 : Byte
  nr2 : Byte
  nr3 : Byte
  nr4 : Byte
  on : Bool
  len : Nat
  volume : Nat
  envTimer : Int
  freqTimer : Nat
  dutyPos : Nat
deriving DecidableEq, Repr

/-- Channel 1's sweep: NR10 (R80) and internals (R103, R795). -/
structure Sweep where
  nr10 : Byte
  shadow : Nat
  timer : Int
  enabled : Bool
deriving DecidableEq, Repr

/-- Channel 3: NR30 to NR34 (R82), internals (R103) and wave RAM (R85). -/
structure WaveChannel where
  nr30 : Byte
  nr31 : Byte
  nr32 : Byte
  nr33 : Byte
  nr34 : Byte
  on : Bool
  len : Nat
  freqTimer : Nat
  pos : Nat
  ram : Memory
deriving DecidableEq, Repr

/-- Channel 4: NR41 to NR44 (R83) and internals (R103). -/
structure NoiseChannel where
  nr41 : Byte
  nr42 : Byte
  nr43 : Byte
  nr44 : Byte
  on : Bool
  len : Nat
  volume : Nat
  envTimer : Int
  freqTimer : Nat
  lfsr : BitVec 15
deriving DecidableEq, Repr

/-- The APU (R80 to R86, R103). `power` is NR52 bit 7. -/
structure Apu where
  ch1 : Square
  sweep : Sweep
  ch2 : Square
  ch3 : WaveChannel
  ch4 : NoiseChannel
  nr50 : Byte
  nr51 : Byte
  power : Bool
  fsStep : Nat
  fsPrev : Bool
deriving DecidableEq, Repr

/-- The eight buttons (R104). -/
inductive Button where
  | right | left | up | down | a | b | select | start
deriving DecidableEq, Repr

/-- P1 (R73) and the pressed state of each button (R104). `selAction` and `selDirection` are P1 bits
5 and 4 as stored: false selects the row (active low). -/
structure Joypad where
  selAction : Bool
  selDirection : Bool
  right : Bool
  left : Bool
  up : Bool
  down : Bool
  a : Bool
  b : Bool
  select : Bool
  start : Bool
deriving DecidableEq, Repr

/-- SB (R74), and SC's two storage bits 7 and 0 in place (R75). -/
structure Serial where
  sb : Byte
  sc : Byte
deriving DecidableEq, Repr

/-- MBC1 registers (R105). -/
structure Mbc1 where
  ramEnable : Bool
  bank1 : BitVec 5
  bank2 : BitVec 2
  mode : Bool
deriving DecidableEq, Repr

/-- MBC2 registers (R105). -/
structure Mbc2 where
  ramEnable : Bool
  romBank : BitVec 4
deriving DecidableEq, Repr

/-- MBC5 registers (R105). -/
structure Mbc5 where
  ramEnable : Bool
  romBank : BitVec 9
  ramBank : BitVec 4
deriving DecidableEq, Repr

/-- The cartridge's bank controller, with the registers its kind has (R105, R171). -/
inductive Mbc where
  | none
  | mbc1 (r : Mbc1)
  | mbc2 (r : Mbc2)
  | mbc5 (r : Mbc5)
deriving DecidableEq, Repr

/-- The cartridge: the ROM image and what its header declares (configuration, R109, R170 to R172), the
MBC registers, the RAM, and the dirty mark (R107). MBC2's RAM cells are its nibbles. -/
structure Cart where
  rom : Buffer
  hasRam : Bool
  battery : Bool
  romBanks : Nat
  ramSize : Nat
  mbc : Mbc
  ram : Memory
  dirty : Bool
deriving DecidableEq, Repr

/-- The boot ROM image, if the machine was built with one, and `boot_mapped` (R106, R136). -/
structure Boot where
  rom : Option Memory
  mapped : Bool
deriving DecidableEq, Repr

/-- One joypad event of the host (R772). -/
structure JoyEvent where
  button : Button
  pressed : Bool
deriving DecidableEq, Repr

/-- A sum of mix values of one or more T-cycles, left and right. One T-cycle's mix of R798 is this
over 480; a sample of R799 is it over 480·k. -/
structure Sample where
  left : Int
  right : Int
deriving DecidableEq, Repr

/-- The host's side (R809): the joypad event queue (oldest first), and what the sinks have been given:
completed frames and the last frame handed over (R804); the running box-filter sum, the block
being filled (newest first), and the blocks handed over (R799); saves (R806); the title (R807).
Of these only the event queue, the sums and `framesDone` (which the save flush of R806 looks at) are read
by a rule; the rest records what was handed over (log 23). -/
structure HostPort where
  events : List JoyEvent
  framesDone : Nat
  lcdFrame : Option Frame
  mixSum : Sample
  mixCount : Nat
  block : List Sample
  blocksSent : Nat
  lastBlock : List Sample
  saves : Nat
  lastSave : Option Memory
  title : List Byte
deriving DecidableEq, Repr

/-- The whole machine. `opCycles` is the M-cycle count n that the executed instruction hands to the
driver (R16, R800); it is 0 between steps (the model's own field, log 11). -/
structure State where
  cpu : Cpu
  intr : Intr
  timer : Timer
  dma : Dma
  ppu : Ppu
  apu : Apu
  joypad : Joypad
  serial : Serial
  cart : Cart
  boot : Boot
  vram : Memory
  wram : Memory
  oam : Memory
  hram : Memory
  masterCycles : Nat
  opCycles : Nat
  host : HostPort
  params : Params
deriving DecidableEq, Repr

/-- Why a step stops. -/
inductive Fault where
  /-- Raised by `step` alone, in a state whose `fatal` is set: no step is enabled there (R700, R800). The
  opcode byte and address are those an undefined opcode recorded. Safe: the hardware executes no
  further instruction in that state either. -/
  | fatal (opcode : Byte) (addr : Word)
deriving DecidableEq, Repr

/-- Why no machine or no meaning exists. -/
inductive Refusal where
  /-- Raised by `exec` for an instruction without a meaning. Safe. No arm raises it now. -/
  | notModelled (mnemonic : String)
  /-- Raised by `construct`: the header declares an unsupported type or size, or the image is shorter
  than it declares (R702, U18). Safe: no machine exists. -/
  | invalidRom
  /-- Raised by `construct`: the boot ROM is not 256 bytes long (R702, U19). Safe: no machine exists. -/
  | bootromSize
deriving DecidableEq, Repr

/-- What a step or an instruction answers. -/
abbrev Result := Host.Outcome State Fault Refusal

/-- R50 to R59 after boot skip (R900). -/
def Cpu.reset : Cpu where
  a := 0x01
  f := { z := true, n := false, h := true, c := true }
  b := 0x00
  c := 0x13
  d := 0x00
  e := 0xD8
  h := 0x01
  l := 0x4D
  sp := 0xFFFE
  pc := 0x0100
  ime := false
  imePending := false
  halt := .running
  fatal := none

/-- An all-off, all-white picture: the frame buffer's reset contents (draw; DESIGN CHOICE, log 3). -/
def Frame.reset : Frame := List.replicate 144 (List.replicate 160 0)

/-- R900: LCD on at LY = 0, dot = 0, so mode 2. OBP0, OBP1 (draws): DESIGN CHOICE, log 4. `mode3Len`
is written at each mode 3 entry; its value before the first: DESIGN CHOICE, log 18. -/
def Ppu.reset : Ppu where
  lcdc := 0x91
  statSel := 0
  scy := 0x00
  scx := 0x00
  ly := 0x00
  lyc := 0x00
  bgp := 0xFC
  obp0 := 0x00
  obp1 := 0x00
  wy := 0x00
  wx := 0x00
  mode := .oamScan
  dot := 0
  mode3Len := 172
  sprites := []
  windowLine := 0
  wyLatch := false
  windowDrawn := false
  prevLyc := false
  prevM2 := false
  prevM1 := false
  prevM0 := false
  frame := Frame.reset

/-- R72, R103, R900: NR52 reads 0xF1, channel 1 on. Bits under a read mask and the channels' internals:
DESIGN CHOICE, log 7 (channel 1 as a trigger with these registers leaves it). -/
def Apu.reset : Apu where
  ch1 := { nr1 := 0x80, nr2 := 0xF3, nr3 := 0x00, nr4 := 0x00, on := true, len := 64, volume := 15,
           envTimer := 3, freqTimer := 8192, dutyPos := 0 }
  sweep := { nr10 := 0x00, shadow := 0, timer := 8, enabled := false }
  ch2 := { nr1 := 0x00, nr2 := 0x00, nr3 := 0x00, nr4 := 0x00, on := false, len := 0, volume := 0,
           envTimer := 0, freqTimer := 8192, dutyPos := 0 }
  ch3 := { nr30 := 0x00, nr31 := 0x00, nr32 := 0x00, nr33 := 0x00, nr34 := 0x00, on := false, len := 0,
           freqTimer := 4096, pos := 0, ram := [] }
  ch4 := { nr41 := 0x00, nr42 := 0x00, nr43 := 0x00, nr44 := 0x00, on := false, len := 0, volume := 0,
           envTimer := 0, freqTimer := 8, lfsr := 0 }
  nr50 := 0x77
  nr51 := 0xF3
  power := true
  fsStep := 0
  fsPrev := false

/-- R73, R104: both rows selected, nothing pressed. -/
def Joypad.reset : Joypad where
  selAction := false
  selDirection := false
  right := false
  left := false
  up := false
  down := false
  a := false
  b := false
  select := false
  start := false

/-- Nothing queued, nothing handed over yet. -/
def HostPort.reset : HostPort where
  events := []
  framesDone := 0
  lcdFrame := none
  mixSum := { left := 0, right := 0 }
  mixCount := 0
  block := []
  blocksSent := 0
  lastBlock := []
  saves := 0
  lastSave := none
  title := []

/-- A 32 KiB cartridge of 0x00 bytes: its header bytes 0x0147 to 0x0149 declare no MBC, 32 KiB, no RAM
(R171, R172). DESIGN CHOICE, log 1: the spec's machine has the image it was built with. -/
def Cart.reset : Cart where
  rom := { size := 32768, bytes := [] }
  hasRam := false
  battery := false
  romBanks := 2
  ramSize := 0
  mbc := .none
  ram := []
  dirty := false

/-- The machine right after boot skip (R900), every parameter at its default. -/
def State.reset : State where
  cpu := Cpu.reset
  intr := { ie := 0x00, iflag := 0b00001 }
  timer := { counter := 0xAB00, tima := 0x00, tma := 0x00, tac := 0, reloadCountdown := 0 }
  dma := { reg := 0xFF, active := false, source := 0xFF, index := 0 }
  ppu := Ppu.reset
  apu := Apu.reset
  joypad := Joypad.reset
  serial := { sb := 0x00, sc := 0x00 }
  cart := Cart.reset
  boot := { rom := none, mapped := false }
  vram := []
  wram := []
  oam := []
  hram := []
  masterCycles := 0
  opCycles := 0
  host := HostPort.reset
  params := Params.default

end Sys2Proof.Machine
end

