-- ==== Sys2Proof/Machine/Mem.lean ====
section
/-! DEFINITION. Reading and writing one cell of a memory array (spec/10_state.md R99), and the canonical form
that both keep: offsets strictly rising, no listed 0x00. -/

namespace Sys2Proof.Machine

/-- The byte at an offset; an unlisted cell is 0x00 (log 3). -/
def Memory.read (m : Memory) (a : Nat) : Byte :=
  match m with
  | [] => 0x00
  | (k, v) :: rest => if k = a then v else Memory.read rest a

/-- Store `v` at offset `a`, keeping the canonical form. -/
def Memory.write (m : Memory) (a : Nat) (v : Byte) : Memory :=
  match m with
  | [] => if v = 0x00 then [] else [(a, v)]
  | (k, x) :: rest =>
    if a < k then (if v = 0x00 then (k, x) :: rest else (a, v) :: (k, x) :: rest)
    else if a = k then (if v = 0x00 then rest else (a, v) :: rest)
    else (k, x) :: Memory.write rest a v

/-- Every offset is at least `lo`, offsets strictly rise, and no cell is 0x00. -/
def Memory.above (lo : Nat) (m : Memory) : Bool :=
  match m with
  | [] => true
  | (k, v) :: rest => decide (lo ≤ k) && decide (v ≠ 0x00) && Memory.above (k + 1) rest

/-- The canonical form: equal arrays are equal lists. -/
def Memory.wf (m : Memory) : Bool := Memory.above 0 m

/-- Every listed offset is inside an array of `size` cells. -/
def Memory.within (size : Nat) (m : Memory) : Bool := m.all fun c => decide (c.1 < size)

end Sys2Proof.Machine
end

