-- ==== Sys2Proof/Machine/Timer.lean ====
section
/-! DEFINITION. The timer (spec/60_exceptions.md R760 to R764; conflicts C3, C6). -/

namespace Sys2Proof.Machine

/-- Set bit `k` of IF: how a device requests an interrupt (R721). -/
def State.request (s : State) (k : Nat) : State :=
  { s with intr := { s.intr with iflag := s.intr.iflag ||| BitVec.ofNat 5 (2 ^ k) } }

/-- `sel(tac)` of R760: the counter bit that clocks TIMA. -/
def tacBit (tac : BitVec 3) : Nat :=
  match tac.toNat % 4 with
  | 0 => 9
  | 1 => 3
  | 2 => 5
  | _ => 7

/-- `signal(c, t)` of R760. -/
def timerSignal (counter : Word) (tac : BitVec 3) : Bool :=
  tac.getLsbD 2 && counter.getLsbD (tacBit tac)

/-- `IncTIMA` of R760. -/
def Timer.incTima (t : Timer) : Timer :=
  if t.tima = 0xFF then { t with tima := 0x00, reloadCountdown := 4 }
  else { t with tima := t.tima + 1 }

/-- The reload part of one T-cycle (R760, R763): the timer, and whether IF bit 2 is set now. -/
def Timer.reload (t : Timer) : Timer × Bool :=
  if t.reloadCountdown = 0 then (t, false)
  else if t.reloadCountdown = 1 then ({ t with tima := t.tma, reloadCountdown := 0 }, true)
  else ({ t with reloadCountdown := t.reloadCountdown - 1 }, false)

/-- The counting part of one T-cycle (R760). -/
def Timer.count (t : Timer) : Timer :=
  let t' := { t with counter := t.counter + 1 }
  if timerSignal t.counter t.tac && !timerSignal t'.counter t.tac then t'.incTima else t'

/-- `TimerT` of R760: one T-cycle. -/
def timerT (s : State) : State :=
  let (t, fired) := s.timer.reload
  let s' := { s with timer := t.count }
  if fired then s'.request 2 else s'

/-- A CPU write to DIV (R761): any value clears the counter; the increment needs TAC.2 = 1 (C6). -/
def Timer.writeDiv (t : Timer) : Timer :=
  let t' := if timerSignal t.counter t.tac then t.incTima else t
  { t' with counter := 0 }

/-- A CPU write to TIMA (R763): a pending reload is cancelled. -/
def Timer.writeTima (t : Timer) (v : Byte) : Timer :=
  { t with tima := v, reloadCountdown := 0 }

/-- A CPU write to TMA (R78, R763). -/
def Timer.writeTma (t : Timer) (v : Byte) : Timer :=
  { t with tma := v }

/-- A CPU write to TAC (R762), with the parameter `tac_write_glitch`. -/
def Timer.writeTac (t : Timer) (glitch : Bool) (v : Byte) : Timer :=
  let tac' : BitVec 3 := BitVec.ofNat 3 v.toNat
  let t' := { t with tac := tac' }
  if glitch && timerSignal t.counter t.tac && !timerSignal t.counter tac' then t'.incTima else t'

end Sys2Proof.Machine
end

