-- ==== Sys2Proof/Machine/Apu.lean ====
section
/-! DEFINITION. The APU (spec/60_exceptions.md R790 to R799; spec/10_state.md R80 to R86, R103; conflict C5).
Registers are named by their address's low byte (0x10 to 0x3F). Timers count as exact integers
(spec/00_scope.md R11, log 13). -/

namespace Sys2Proof.Machine

/-! ### DACs, periods and outputs (R796, R797) -/

/-- The DAC of channel 1, 2 or 4 is on: `NRx2[7:3] ≠ 0` (R796). -/
def dacOn (nr2 : Byte) : Bool := decide (8 ≤ nr2.toNat)

/-- The DAC of channel 3 is on: NR30 bit 7 (R796). -/
def WaveChannel.dacOn (c : WaveChannel) : Bool := c.nr30.getLsbD 7

/-- The 11-bit period p (R797). -/
def periodBits (nr3 nr4 : Byte) : Nat := nr4.toNat % 8 * 256 + nr3.toNat

/-- Channels 1 and 2: `(2048 − p) × 4` T-cycles (R797). -/
def Square.period (c : Square) : Nat := (2048 - periodBits c.nr3 c.nr4) * 4

/-- Channel 3: `(2048 − p) × 2` T-cycles (R797). -/
def WaveChannel.period (c : WaveChannel) : Nat := (2048 - periodBits c.nr33 c.nr34) * 2

/-- Channel 4: `(8 if r = 0 else 16·r) << s` T-cycles (R797). -/
def NoiseChannel.period (c : NoiseChannel) : Nat :=
  (if c.nr43.toNat % 8 = 0 then 8 else 16 * (c.nr43.toNat % 8)) * 2 ^ (c.nr43.toNat / 16)

/-- The duty patterns of R797, read from the left as positions 0 to 7 (log 15). -/
def dutyPattern (duty : Nat) : List Bool :=
  match duty with
  | 0 => [false, false, false, false, false, false, false, true]
  | 1 => [true, false, false, false, false, false, false, true]
  | 2 => [true, false, false, false, false, true, true, true]
  | _ => [false, true, true, true, true, true, true, false]

/-- A square channel's output, 0..15 (R797). -/
def Square.output (c : Square) : Nat :=
  if c.on && (dutyPattern (c.nr1.toNat / 64)).getD c.dutyPos false then c.volume else 0

/-- Sample i (0..31) of wave RAM, high nibble first (R85). -/
def waveSample (ram : Memory) (i : Nat) : Nat :=
  if i % 2 = 0 then (ram.read (i / 2)).toNat / 16 else (ram.read (i / 2)).toNat % 16

/-- Channel 3's output: `sample >> [4, 0, 1, 2][NR32[6:5]]` (R797). -/
def WaveChannel.output (c : WaveChannel) : Nat :=
  let shift := match c.nr32.toNat / 32 % 4 with
    | 0 => 4
    | 1 => 0
    | 2 => 1
    | _ => 2
  if c.on then waveSample c.ram c.pos / 2 ^ shift else 0

/-- Channel 4's output (R797). -/
def NoiseChannel.output (c : NoiseChannel) : Nat :=
  if c.on && !c.lfsr.getLsbD 0 then c.volume else 0

/-! ### Frequency timers: one T-cycle (R797) -/

/-- Count down; on zero reload from the period and advance the duty position. -/
def Square.tickT (c : Square) : Square :=
  if c.freqTimer ≤ 1 then { c with freqTimer := c.period, dutyPos := (c.dutyPos + 1) % 8 }
  else { c with freqTimer := c.freqTimer - 1 }

/-- Count down; on zero reload from the period and advance the wave position. -/
def WaveChannel.tickT (c : WaveChannel) : WaveChannel :=
  if c.freqTimer ≤ 1 then { c with freqTimer := c.period, pos := (c.pos + 1) % 32 }
  else { c with freqTimer := c.freqTimer - 1 }

/-- The LFSR step of R797; `short` is NR43 bit 3. -/
def lfsrStep (l : BitVec 15) (short : Bool) : BitVec 15 :=
  let x := Bool.xor (l.getLsbD 0) (l.getLsbD 1)
  let shifted := BitVec.ofNat 15 (l.toNat / 2 + if x then 0x4000 else 0)
  if short then BitVec.ofNat 15 (shifted.toNat / 128 * 128 + (if x then 64 else 0) + shifted.toNat % 64) else shifted

/-- Count down; on zero reload from the period and step the LFSR. -/
def NoiseChannel.tickT (c : NoiseChannel) : NoiseChannel :=
  if c.freqTimer ≤ 1 then { c with freqTimer := c.period, lfsr := lfsrStep c.lfsr (c.nr43.getLsbD 3) }
  else { c with freqTimer := c.freqTimer - 1 }

/-- The four frequency timers, one T-cycle. -/
def Apu.tickT (a : Apu) : Apu :=
  { a with ch1 := a.ch1.tickT, ch2 := a.ch2.tickT, ch3 := a.ch3.tickT, ch4 := a.ch4.tickT }

/-! ### Frame sequencer (R790, R791, R793, R795) -/

/-- A length clock: `(len, on)` after it (R791). -/
def lengthClock (nr4 : Byte) (len : Nat) (on : Bool) : Nat × Bool :=
  if nr4.getLsbD 6 && decide (0 < len) then (len - 1, on && decide (len - 1 ≠ 0)) else (len, on)

/-- Clock every length counter. -/
def Apu.clockLengths (a : Apu) : Apu :=
  let l1 := lengthClock a.ch1.nr4 a.ch1.len a.ch1.on
  let l2 := lengthClock a.ch2.nr4 a.ch2.len a.ch2.on
  let l3 := lengthClock a.ch3.nr34 a.ch3.len a.ch3.on
  let l4 := lengthClock a.ch4.nr44 a.ch4.len a.ch4.on
  { a with
    ch1 := { a.ch1 with len := l1.1, on := l1.2 }
    ch2 := { a.ch2 with len := l2.1, on := l2.2 }
    ch3 := { a.ch3 with len := l3.1, on := l3.2 }
    ch4 := { a.ch4 with len := l4.1, on := l4.2 } }

/-- An envelope clock: `(timer, volume)` after it (R793). -/
def envelopeClock (nr2 : Byte) (timer : Int) (volume : Nat) : Int × Nat :=
  let pace := nr2.toNat % 8
  if pace = 0 then (timer, volume)
  else if timer - 1 = 0 then
    ((pace : Int),
      if nr2.getLsbD 3 then (if volume < 15 then volume + 1 else volume) else volume - 1)
  else (timer - 1, volume)

/-- Clock every envelope. -/
def Apu.clockEnvelopes (a : Apu) : Apu :=
  let e1 := envelopeClock a.ch1.nr2 a.ch1.envTimer a.ch1.volume
  let e2 := envelopeClock a.ch2.nr2 a.ch2.envTimer a.ch2.volume
  let e4 := envelopeClock a.ch4.nr42 a.ch4.envTimer a.ch4.volume
  { a with
    ch1 := { a.ch1 with envTimer := e1.1, volume := e1.2 }
    ch2 := { a.ch2 with envTimer := e2.1, volume := e2.2 }
    ch4 := { a.ch4 with envTimer := e4.1, volume := e4.2 } }

/-- `SweepCalc()` of R795 on a shadow period. -/
def sweepCalc (nr10 : Byte) (shadow : Nat) : Nat :=
  let d := shadow / 2 ^ (nr10.toNat % 8)
  if nr10.getLsbD 3 then shadow - d else shadow + d

/-- NR10[6:4], the sweep pace (R80). -/
def sweepPace (nr10 : Byte) : Nat := nr10.toNat / 16 % 8

/-- The sweep timer's reload value: the pace, 8 if it is 0 (R792, R795). -/
def sweepReload (nr10 : Byte) : Int := if sweepPace nr10 = 0 then 8 else (sweepPace nr10 : Int)

/-- Channel 1's period registers set to n (R795): NR13 and NR14 bits 2..0. -/
def Square.setPeriod (c : Square) (n : Nat) : Square :=
  { c with nr3 := BitVec.ofNat 8 n, nr4 := BitVec.ofNat 8 (c.nr4.toNat / 8 * 8 + n / 256 % 8) }

/-- Clock channel 1's sweep (R795). -/
def Apu.clockSweep (a : Apu) : Apu :=
  let sw := a.sweep
  if sw.timer - 1 = 0 then
    let sw' := { sw with timer := sweepReload sw.nr10 }
    if sw.enabled && decide (sweepPace sw.nr10 ≠ 0) then
      let n := sweepCalc sw.nr10 sw.shadow
      if 2047 < n then { a with sweep := sw', ch1 := { a.ch1 with on := false } }
      else if sw.nr10.toNat % 8 ≠ 0 then
        let c := a.ch1.setPeriod n
        { a with
          sweep := { sw' with shadow := n }
          ch1 := { c with on := c.on && decide (sweepCalc sw.nr10 n ≤ 2047) } }
      else { a with sweep := sw' }
    else { a with sweep := sw' }
  else { a with sweep := { sw with timer := sw.timer - 1 } }

/-- `FrameStep()` of R790. -/
def Apu.frameStep (a : Apu) : Apu :=
  let a1 := if a.fsStep % 2 = 0 then a.clockLengths else a
  let a2 := if a.fsStep = 2 ∨ a.fsStep = 6 then a1.clockSweep else a1
  let a3 := if a.fsStep = 7 then a2.clockEnvelopes else a2
  { a3 with fsStep := (a.fsStep + 1) % 8 }

/-- The start of an APU M-cycle tick (R790): `bit12` is bit 12 of the timer counter. -/
def Apu.sequencer (a : Apu) (bit12 : Bool) : Apu :=
  let a' := if a.power && a.fsPrev && !bit12 then a.frameStep else a
  { a' with fsPrev := bit12 }

/-! ### Mixing and sample output (R798, R799) -/

/-- `a_k` of R798 over 15: `(out_k / 7.5) − 1 = (2·out_k − 15) / 15`, or 0 with the DAC off. -/
def dacValue (dac : Bool) (out : Nat) : Int := if dac then 2 * (out : Int) - 15 else 0

/-- The four channels' `a_k` over 15. -/
def Apu.dacValues (a : Apu) : List Int :=
  [dacValue (dacOn a.ch1.nr2) a.ch1.output, dacValue (dacOn a.ch2.nr2) a.ch2.output,
   dacValue a.ch3.dacOn a.ch3.output, dacValue (dacOn a.ch4.nr42) a.ch4.output]

/-- The sum of the values routed by NR51 bits `lo` to `lo + 3` (channels 1 to 4). -/
def routedSum (values : List Int) (nr51 : Byte) (lo : Nat) : Int :=
  (values.zipIdx.map fun (v, i) => if nr51.getLsbD (lo + i) then v else 0).sum

/-- `(left, right)` of R798, both over 480 = 15 · 4 · 8. -/
def Apu.mix (a : Apu) : Sample where
  left := routedSum a.dacValues a.nr51 4 * ((a.nr50.toNat / 16 % 8 : Nat) + 1)
  right := routedSum a.dacValues a.nr51 0 * ((a.nr50.toNat % 8 : Nat) + 1)

/-- How many samples make a block for the stereo sink ("~1024", R799; log 23). -/
def sampleBlock : Nat := 1024

/-- One T-cycle of the box filter (R799): every k T-cycles the sum of the last k mixes is a sample; a
full block goes to the stereo sink. Headless machines emit none. -/
def HostPort.takeMix (h : HostPort) (p : Params) (m : Sample) : HostPort :=
  if p.headless then h
  else
    let sum : Sample := { left := h.mixSum.left + m.left, right := h.mixSum.right + m.right }
    if p.sampleRate ≠ 0 ∧ 4194304 / p.sampleRate ≤ h.mixCount + 1 then
      let h' := { h with mixSum := { left := 0, right := 0 }, mixCount := 0 }
      if sampleBlock ≤ (sum :: h.block).length then
        { h' with block := [], lastBlock := (sum :: h.block).reverse, blocksSent := h.blocksSent + 1 }
      else { h' with block := sum :: h.block }
    else { h with mixSum := sum, mixCount := h.mixCount + 1 }

/-- One T-cycle of the APU (R797 to R799). The spec does not say whether a T-cycle's mix is taken before or after its
frequency timers advance: here after (DESIGN CHOICE, log 35). -/
def apuT (s : State) : State :=
  let a := s.apu.tickT
  { s with apu := a, host := s.host.takeMix s.params a.mix }

/-- `ApuM` of R802: the frame sequencer, then four T-cycles (R790). -/
def apuM (s : State) : State :=
  apuT (apuT (apuT (apuT { s with apu := s.apu.sequencer (s.timer.counter.getLsbD 12) })))

/-! ### Trigger (R792) and register writes (R791, R794, R796) -/

/-- Trigger channel 1 or 2: on if its DAC is on, length reloaded if 0, frequency timer and envelope
restarted. -/
def Square.trigger (c : Square) : Square :=
  { c with
    on := dacOn c.nr2
    len := if c.len = 0 then 64 else c.len
    freqTimer := c.period
    volume := c.nr2.toNat / 16
    envTimer := ((c.nr2.toNat % 8 : Nat) : Int) }

/-- Trigger channel 1 with its sweep: the overflow check may turn it off again. -/
def Apu.trigger1 (a : Apu) : Apu :=
  let c := a.ch1.trigger
  let shadow := periodBits c.nr3 c.nr4
  let nr10 := a.sweep.nr10
  let overflow := decide (nr10.toNat % 8 ≠ 0) && decide (2047 < sweepCalc nr10 shadow)
  { a with
    ch1 := { c with on := c.on && !overflow }
    sweep := { a.sweep with
      shadow := shadow
      timer := sweepReload nr10
      enabled := decide (sweepPace nr10 ≠ 0) || decide (nr10.toNat % 8 ≠ 0) } }

/-- Trigger channel 3. -/
def WaveChannel.trigger (c : WaveChannel) : WaveChannel :=
  { c with
    on := c.dacOn
    len := if c.len = 0 then 256 else c.len
    freqTimer := c.period
    pos := 0 }

/-- Trigger channel 4. -/
def NoiseChannel.trigger (c : NoiseChannel) : NoiseChannel :=
  { c with
    on := Machine.dacOn c.nr42
    len := if c.len = 0 then 64 else c.len
    freqTimer := c.period
    volume := c.nr42.toNat / 16
    envTimer := ((c.nr42.toNat % 8 : Nat) : Int)
    lfsr := 0x7FFF }

/-- What is stored of a write to NRx4: not the trigger bit (R792, log 16). -/
def storeNr4 (v : Byte) : Byte := v &&& 0x7F

/-- A write to NR11/NR21: duty and length (R791). -/
def Square.writeNr1 (c : Square) (v : Byte) : Square := { c with nr1 := v, len := 64 - v.toNat % 64 }

/-- A write to NR12/NR22: turning the DAC off turns the channel off (R796). -/
def Square.writeNr2 (c : Square) (v : Byte) : Square := { c with nr2 := v, on := c.on && dacOn v }

/-- Every channel off (R794). -/
def Apu.allOff (a : Apu) : Apu :=
  { a with
    ch1 := { a.ch1 with on := false }
    ch2 := { a.ch2 with on := false }
    ch3 := { a.ch3 with on := false }
    ch4 := { a.ch4 with on := false } }

/-- A write to NR52 (R794): bit 7 only. -/
def Apu.writeNr52 (a : Apu) (v : Byte) : Apu :=
  if v.getLsbD 7 then (if a.power then a else { a with power := true, fsStep := 0 })
  else { a.allOff with power := false }

/-- A write to one of 0xFF10–0xFF25 while the APU is powered. -/
def Apu.writePowered (a : Apu) (r : Nat) (v : Byte) : Apu :=
  match r with
  | 0x10 => { a with sweep := { a.sweep with nr10 := v } }
  | 0x11 => { a with ch1 := a.ch1.writeNr1 v }
  | 0x12 => { a with ch1 := a.ch1.writeNr2 v }
  | 0x13 => { a with ch1 := { a.ch1 with nr3 := v } }
  | 0x14 =>
    let a' := { a with ch1 := { a.ch1 with nr4 := storeNr4 v } }
    if v.getLsbD 7 then a'.trigger1 else a'
  | 0x16 => { a with ch2 := a.ch2.writeNr1 v }
  | 0x17 => { a with ch2 := a.ch2.writeNr2 v }
  | 0x18 => { a with ch2 := { a.ch2 with nr3 := v } }
  | 0x19 =>
    let c := { a.ch2 with nr4 := storeNr4 v }
    { a with ch2 := if v.getLsbD 7 then c.trigger else c }
  | 0x1A => { a with ch3 := { a.ch3 with nr30 := v, on := a.ch3.on && v.getLsbD 7 } }
  | 0x1B => { a with ch3 := { a.ch3 with nr31 := v, len := 256 - v.toNat } }
  | 0x1C => { a with ch3 := { a.ch3 with nr32 := v } }
  | 0x1D => { a with ch3 := { a.ch3 with nr33 := v } }
  | 0x1E =>
    let c := { a.ch3 with nr34 := storeNr4 v }
    { a with ch3 := if v.getLsbD 7 then c.trigger else c }
  | 0x20 => { a with ch4 := { a.ch4 with nr41 := v, len := 64 - v.toNat % 64 } }
  | 0x21 => { a with ch4 := { a.ch4 with nr42 := v, on := a.ch4.on && dacOn v } }
  | 0x22 => { a with ch4 := { a.ch4 with nr43 := v } }
  | 0x23 =>
    let c := { a.ch4 with nr44 := storeNr4 v }
    { a with ch4 := if v.getLsbD 7 then c.trigger else c }
  | 0x24 => { a with nr50 := v }
  | 0x25 => { a with nr51 := v }
  | _ => a

/-- A CPU write to 0xFF10–0xFF3F by its low byte (R80 to R86, R794): NR10 to NR51 are ignored while the
power is off, wave RAM is not. -/
def Apu.write (a : Apu) (r : Nat) (v : Byte) : Apu :=
  if 0x30 ≤ r then { a with ch3 := { a.ch3 with ram := a.ch3.ram.write (r - 0x30) v } }
  else if r = 0x26 then a.writeNr52 v
  else if a.power then a.writePowered r v
  else a

/-- NR52 as read: power, ones, and the on-state of channels 4 to 1 (R84, R86). -/
def Apu.readNr52 (a : Apu) : Byte :=
  bitAt a.power 7 ||| 0x70 ||| bitAt a.ch4.on 3 ||| bitAt a.ch3.on 2 ||| bitAt a.ch2.on 1 ||| bitAt a.ch1.on 0

/-- A CPU read of 0xFF10–0xFF3F by its low byte: the stored value OR its read mask (R86). -/
def Apu.read (a : Apu) (r : Nat) : Byte :=
  match r with
  | 0x10 => a.sweep.nr10 ||| 0x80
  | 0x11 => a.ch1.nr1 ||| 0x3F
  | 0x12 => a.ch1.nr2 ||| 0x00
  | 0x13 => a.ch1.nr3 ||| 0xFF
  | 0x14 => a.ch1.nr4 ||| 0xBF
  | 0x16 => a.ch2.nr1 ||| 0x3F
  | 0x17 => a.ch2.nr2 ||| 0x00
  | 0x18 => a.ch2.nr3 ||| 0xFF
  | 0x19 => a.ch2.nr4 ||| 0xBF
  | 0x1A => a.ch3.nr30 ||| 0x7F
  | 0x1B => a.ch3.nr31 ||| 0xFF
  | 0x1C => a.ch3.nr32 ||| 0x9F
  | 0x1D => a.ch3.nr33 ||| 0xFF
  | 0x1E => a.ch3.nr34 ||| 0xBF
  | 0x20 => a.ch4.nr41 ||| 0xFF
  | 0x21 => a.ch4.nr42 ||| 0x00
  | 0x22 => a.ch4.nr43 ||| 0x00
  | 0x23 => a.ch4.nr44 ||| 0xBF
  | 0x24 => a.nr50 ||| 0x00
  | 0x25 => a.nr51 ||| 0x00
  | 0x26 => a.readNr52
  | _ => if 0x30 ≤ r then a.ch3.ram.read (r - 0x30) else 0xFF

end Sys2Proof.Machine
end

