-- ==== Sys2Proof/Machine/Cart.lean ====
section
/-! DEFINITION. The cartridge's bank logic (spec/20_memory.md R173 to R190; conflict C8). Offsets are bus
addresses as numbers. -/

namespace Sys2Proof.Machine

/-- ROMBANK of R173: byte `offset` of ROM bank `b`, banks taken modulo the bank count. -/
def Cart.romOffset (c : Cart) (b offset : Nat) : Nat := b % c.romBanks * 0x4000 + offset

/-- The ROM bank that 0x0000–0x3FFF (`high` false) or 0x4000–0x7FFF (`high` true) shows
(R177, R181, R185). -/
def Mbc.romBankAt (m : Mbc) (high : Bool) : Nat :=
  match m with
  | .none => if high then 1 else 0
  | .mbc1 r => if high then r.bank2.toNat * 32 + r.bank1.toNat else if r.mode then r.bank2.toNat * 32 else 0
  | .mbc2 r => if high then r.romBank.toNat else 0
  | .mbc5 r => if high then r.romBank.toNat else 0

/-- Where in the ROM image the bus address `a` (below 0x8000) lies. Without an MBC it is the first
32 KiB, unbanked (R175). -/
def Cart.romIndex (c : Cart) (a : Nat) : Nat :=
  match c.mbc with
  | .none => a
  | m => if a < 0x4000 then c.romOffset (m.romBankAt false) a else c.romOffset (m.romBankAt true) (a - 0x4000)

/-- A read of 0x0000–0x7FFF (R137). -/
def Cart.readRom (c : Cart) (a : Nat) : Byte := c.rom.bytes.read (c.romIndex a)

/-- `bool(v[3:0] = 0xA)`: the RAM enable value (R174). -/
def ramEnableValue (v : Byte) : Bool := v.toNat % 16 == 0xA

/-- A write to an MBC1 register (R176). -/
def Mbc1.write (r : Mbc1) (a : Nat) (v : Byte) : Mbc1 :=
  if a < 0x2000 then { r with ramEnable := ramEnableValue v }
  else if a < 0x4000 then
    let b : BitVec 5 := BitVec.ofNat 5 v.toNat
    { r with bank1 := if b = 0 then 1 else b }
  else if a < 0x6000 then { r with bank2 := BitVec.ofNat 2 v.toNat }
  else { r with mode := v.getLsbD 0 }

/-- A write to an MBC2 register (R180): address bit 8 selects. -/
def Mbc2.write (r : Mbc2) (a : Nat) (v : Byte) : Mbc2 :=
  if a < 0x4000 then
    if a / 256 % 2 = 0 then { r with ramEnable := ramEnableValue v }
    else
      let b : BitVec 4 := BitVec.ofNat 4 v.toNat
      { r with romBank := if b = 0 then 1 else b }
  else r

/-- A write to an MBC5 register (R184). -/
def Mbc5.write (r : Mbc5) (a : Nat) (v : Byte) : Mbc5 :=
  if a < 0x2000 then { r with ramEnable := ramEnableValue v }
  else if a < 0x3000 then { r with romBank := BitVec.ofNat 9 (r.romBank.toNat / 256 * 256 + v.toNat) }
  else if a < 0x4000 then { r with romBank := BitVec.ofNat 9 (v.toNat % 2 * 256 + r.romBank.toNat % 256) }
  else if a < 0x6000 then { r with ramBank := BitVec.ofNat 4 v.toNat }
  else r

/-- A write to 0x0000–0x7FFF goes to the MBC's registers and never changes ROM (R137, R175). -/
def Cart.writeRom (c : Cart) (a : Nat) (v : Byte) : Cart :=
  { c with mbc :=
      match c.mbc with
      | .none => .none
      | .mbc1 r => .mbc1 (r.write a v)
      | .mbc2 r => .mbc2 (r.write a v)
      | .mbc5 r => .mbc5 (r.write a v) }

/-- `ram_banks` of R172. -/
def Cart.ramBanks (c : Cart) : Nat := max 1 (c.ramSize / 8192)

/-- `ram[((b mod ram_banks)·0x2000 + offset) mod ram_size]` of R173: the cell's offset. -/
def Cart.ramOffset (c : Cart) (b offset : Nat) : Nat := (b % c.ramBanks * 0x2000 + offset) % c.ramSize

/-- The RAM cell that the bus address `a` in 0xA000–0xBFFF reaches, or none where the RAM is absent or
disabled (R175, R178, R182, R187). -/
def Cart.ramIndex (c : Cart) (a : Nat) : Option Nat :=
  match c.mbc with
  | .none => none
  | .mbc1 r => if c.hasRam && r.ramEnable then some (c.ramOffset (if r.mode then r.bank2.toNat else 0) (a - 0xA000)) else none
  | .mbc2 r => if r.ramEnable then some (a % 512) else none
  | .mbc5 r => if c.hasRam && r.ramEnable then some (c.ramOffset r.ramBank.toNat (a - 0xA000)) else none

/-- Whether the RAM cells are MBC2's nibbles (R182). -/
def Mbc.nibbles (m : Mbc) : Bool :=
  match m with
  | .mbc2 _ => true
  | _ => false

/-- A RAM cell as the bus and the save sink see it: MBC2's upper nibble reads 0xF (R182, R190). -/
def Cart.ramByte (c : Cart) (i : Nat) : Byte :=
  if c.mbc.nibbles then 0xF0 ||| c.ram.read i else c.ram.read i

/-- A read of 0xA000–0xBFFF: 0xFF where there is no enabled RAM (R139). -/
def Cart.readRam (c : Cart) (a : Nat) : Byte :=
  match c.ramIndex a with
  | some i => c.ramByte i
  | none => 0xFF

/-- A write to 0xA000–0xBFFF: ignored where there is no enabled RAM, else it marks the cartridge
dirty (R139, R178, R182, R187). -/
def Cart.writeRam (c : Cart) (a : Nat) (v : Byte) : Cart :=
  match c.ramIndex a with
  | some i => { c with ram := c.ram.write i (if c.mbc.nibbles then v &&& 0x0F else v), dirty := true }
  | none => c

end Sys2Proof.Machine
end

