-- ==== Sys2Proof/Machine/Joypad.lean ====
section
/-! DEFINITION. The joypad (spec/60_exceptions.md R770 to R772; spec/10_state.md R73, R104). -/

namespace Sys2Proof.Machine

/-- Whether a button is pressed. -/
def Joypad.pressed (j : Joypad) (k : Button) : Bool :=
  match k with
  | .right => j.right
  | .left => j.left
  | .up => j.up
  | .down => j.down
  | .a => j.a
  | .b => j.b
  | .select => j.select
  | .start => j.start

/-- Set a button's pressed state. -/
def Joypad.setPressed (j : Joypad) (k : Button) (p : Bool) : Joypad :=
  match k with
  | .right => { j with right := p }
  | .left => { j with left := p }
  | .up => { j with up := p }
  | .down => { j with down := p }
  | .a => { j with a := p }
  | .b => { j with b := p }
  | .select => { j with select := p }
  | .start => { j with start := p }

/-- Whether the button's row is selected: its P1 bit is 0 (R73). -/
def Joypad.rowSelected (j : Joypad) (k : Button) : Bool :=
  match k with
  | .right | .left | .up | .down => !j.selDirection
  | .a | .b | .select | .start => !j.selAction

/-- Whether a P1 input bit reads 0: one of its two buttons is pressed in a selected row (R770). -/
def Joypad.lineLow (j : Joypad) (dir act : Button) : Bool :=
  (!j.selDirection && j.pressed dir) || (!j.selAction && j.pressed act)

/-- `read(P1)` of R770. -/
def Joypad.readP1 (j : Joypad) : Byte :=
  0xC0 ||| bitAt j.selAction 5 ||| bitAt j.selDirection 4 |||
    bitAt (!j.lineLow .down .start) 3 ||| bitAt (!j.lineLow .up .select) 2 |||
    bitAt (!j.lineLow .left .b) 1 ||| bitAt (!j.lineLow .right .a) 0

/-- A CPU write to P1 stores bits 5..4 only (R73). -/
def Joypad.writeP1 (j : Joypad) (v : Byte) : Joypad :=
  { j with selAction := v.getLsbD 5, selDirection := v.getLsbD 4 }

/-- The host's `update(b, p)` (R771): a press edge in a selected row requests interrupt 4. -/
def joypadUpdate (s : State) (ev : JoyEvent) : State :=
  let s' := { s with joypad := s.joypad.setPressed ev.button ev.pressed }
  if ev.pressed && !s.joypad.pressed ev.button && s.joypad.rowSelected ev.button then s'.request 4 else s'

/-- `PollJoypad` of R772: drain the queue, in order. -/
def pollJoypad (s : State) : State :=
  s.host.events.foldl joypadUpdate { s with host := { s.host with events := [] } }

end Sys2Proof.Machine
end

