-- ==== Sys2Proof/Machine/Ppu.lean ====
section
/-! DEFINITION. The PPU (spec/60_exceptions.md R780 to R789, R804; spec/10_state.md R88 to R96, R102;
conflict C9). -/

namespace Sys2Proof.Machine

/-! ### Registers -/

/-- The two mode bits of STAT (R89). -/
def Mode.code (m : Mode) : Nat :=
  match m with
  | .hblank => 0
  | .vblank => 1
  | .oamScan => 2
  | .drawing => 3

/-- LCDC bit 7 (R88). -/
def Ppu.lcdOn (p : Ppu) : Bool := p.lcdc.getLsbD 7

/-- `read(STAT)` of R89. -/
def Ppu.readStat (p : Ppu) : Byte :=
  BitVec.ofNat 8 (0x80 + p.statSel.toNat * 8 + (if p.ly = p.lyc then 4 else 0) + p.mode.code)

/-- The sprite height h of R787. -/
def Ppu.objHeight (p : Ppu) : Nat := if p.lcdc.getLsbD 2 then 16 else 8

/-! ### STAT interrupt (R783) -/

/-- `lvl_lyc`; every level is 0 while the LCD is off (D50). -/
def Ppu.lvlLyc (p : Ppu) : Bool := p.lcdOn && p.statSel.getLsbD 3 && decide (p.ly = p.lyc)

/-- `lvl_m2`. -/
def Ppu.lvlM2 (p : Ppu) : Bool := p.lcdOn && p.statSel.getLsbD 2 && decide (p.mode = .oamScan)

/-- `lvl_m1`. -/
def Ppu.lvlM1 (p : Ppu) : Bool := p.lcdOn && p.statSel.getLsbD 1 && decide (p.mode = .vblank)

/-- `lvl_m0`. -/
def Ppu.lvlM0 (p : Ppu) : Bool := p.lcdOn && p.statSel.getLsbD 0 && decide (p.mode = .hblank)

/-- Whether some source's level has risen since the last update. -/
def Ppu.statRises (p : Ppu) : Bool :=
  (p.lvlLyc && !p.prevLyc) || (p.lvlM2 && !p.prevM2) || (p.lvlM1 && !p.prevM1) || (p.lvlM0 && !p.prevM0)

/-- Remember the levels. -/
def Ppu.latchLevels (p : Ppu) : Ppu :=
  { p with prevLyc := p.lvlLyc, prevM2 := p.lvlM2, prevM1 := p.lvlM1, prevM0 := p.lvlM0 }

/-- `StatUpdate` of R783. -/
def statUpdate (s : State) : State :=
  let s' := { s with ppu := s.ppu.latchLevels }
  if s.ppu.statRises then s'.request 1 else s'

/-! ### OAM scan (R786, R787) -/

/-- Entry i of OAM (R786). -/
def oamEntry (oam : Memory) (i : Nat) : Sprite where
  index := i
  y := oam.read (4 * i)
  x := oam.read (4 * i + 1)
  tile := oam.read (4 * i + 2)
  attr := oam.read (4 * i + 3)

/-- `OAM[4i] ≤ LY + 16 < OAM[4i] + h` (R787). -/
def Sprite.onLine (sp : Sprite) (ly h : Nat) : Bool :=
  decide (sp.y.toNat ≤ ly + 16) && decide (ly + 16 < sp.y.toNat + h)

/-- The first ten entries, in OAM order, that overlap the line (R787). -/
def oamScan (oam : Memory) (ly h : Nat) : List Sprite :=
  (((List.range 40).map (oamEntry oam)).filter fun sp => sp.onLine ly h).take 10

/-! ### Pixels (R788, R789) -/

/-- The VRAM byte at a bus address 0x8000–0x9FFF. -/
def vramAt (vram : Memory) (addr : Word) : Byte := vram.read (addr.toNat - 0x8000)

/-- `TileRow(idx, r, obj)` of R788: the low and high byte of row r. -/
def tileRow (lcdc : Byte) (vram : Memory) (idx : Byte) (r : Nat) (obj : Bool) : Byte × Byte :=
  let base : Word := if obj || lcdc.getLsbD 4 then 0x8000 + 16 * zext16 idx else 0x9000 + 16 * sext16 idx
  (vramAt vram (base + BitVec.ofNat 16 (2 * r)), vramAt vram (base + BitVec.ofNat 16 (2 * r + 1)))

/-- `Pixel(lo, hi, col)` of R788: the colour number 0..3. -/
def pixelColour (row : Byte × Byte) (col : Nat) : Nat :=
  (if row.2.getLsbD (7 - col) then 2 else 0) + (if row.1.getLsbD (7 - col) then 1 else 0)

/-- Whether the line draws window pixels at all: LCDC bits 0 and 5, the WY latch, WX ≤ 166 (R788). -/
def Ppu.windowActive (p : Ppu) : Bool :=
  p.lcdc.getLsbD 0 && p.lcdc.getLsbD 5 && p.wyLatch && decide (p.wx.toNat ≤ 166)

/-- Whether pixel x is a window pixel (R788). -/
def Ppu.windowAt (p : Ppu) (x : Nat) : Bool := p.windowActive && decide (p.wx.toNat ≤ x + 7)

/-- The tile index at tile row `ty`, tile column `tx` of one of the two maps (R88, R788). -/
def mapTile (vram : Memory) (high : Bool) (ty tx : Nat) : Byte :=
  vram.read ((if high then 0x1C00 else 0x1800) + 32 * ty + tx)

/-- `bgc` of R788: the background or window colour of pixel x of the line. -/
def Ppu.bgColour (p : Ppu) (vram : Memory) (x : Nat) : Nat :=
  if !p.lcdc.getLsbD 0 then 0
  else if p.windowAt x then
    let wx := x + 7 - p.wx.toNat
    let idx := mapTile vram (p.lcdc.getLsbD 6) (p.windowLine / 8) (wx / 8)
    pixelColour (tileRow p.lcdc vram idx (p.windowLine % 8) false) (wx % 8)
  else
    let bgX := (p.scx.toNat + x) % 256
    let bgY := (p.scy.toNat + p.ly.toNat) % 256
    let idx := mapTile vram (p.lcdc.getLsbD 3) (bgY / 8) (bgX / 8)
    pixelColour (tileRow p.lcdc vram idx (bgY % 8) false) (bgX % 8)

/-- Whether the sprite covers pixel x: `X − 8 ≤ x < X` (R789). -/
def Sprite.covers (sp : Sprite) (x : Nat) : Bool := decide (sp.x.toNat ≤ x + 8) && decide (x < sp.x.toNat)

/-- `row` of R789, exact (R11): LCDC bit 2 is read when the pixel is sampled, so after a scan for sprites 16 high
`h` can be 8 here, and a flipped row is then below 0 for the sprite's lower rows. -/
def Ppu.spriteRow (p : Ppu) (sp : Sprite) : Int :=
  let row : Int := (p.ly.toNat : Int) + 16 - (sp.y.toNat : Int)
  if sp.attr.getLsbD 6 then (p.objHeight : Int) - 1 - row else row

/-- The sprite's colour at pixel x of the line (R789). -/
def Ppu.spriteColour (p : Ppu) (vram : Memory) (sp : Sprite) (x : Nat) : Nat :=
  let row := p.spriteRow sp
  let col0 := x + 8 - sp.x.toNat
  let col := if sp.attr.getLsbD 5 then 7 - col0 else col0
  let tile : Byte := if p.objHeight = 16 then (sp.tile &&& 0xFE) + BitVec.ofInt 8 (row / 8) else sp.tile
  pixelColour (tileRow p.lcdc vram tile (row % 8).toNat true) col

/-- Whether `p` goes before `q` in the DMG's drawing order: X, then OAM index (R789). -/
def Sprite.before (p q : Sprite) : Bool :=
  decide (p.x.toNat < q.x.toNat) || (decide (p.x = q.x) && decide (p.index ≤ q.index))

/-- Insert a sprite into a list kept in drawing order. -/
def insertSprite (sp : Sprite) (l : List Sprite) : List Sprite :=
  match l with
  | [] => [sp]
  | q :: rest => if sp.before q then sp :: q :: rest else q :: insertSprite sp rest

/-- The candidates in drawing order (R789). -/
def orderSprites (l : List Sprite) : List Sprite := l.foldr insertSprite []

/-- The topmost sprite with a non-zero colour at pixel x, and that colour (R789). -/
def Ppu.topSprite (p : Ppu) (vram : Memory) (x : Nat) : Option (Sprite × Nat) :=
  if p.lcdc.getLsbD 1 then
    ((orderSprites (p.sprites.filter fun sp => sp.covers x)).map fun sp => (sp, p.spriteColour vram sp x)).find?
      fun c => c.2 != 0
  else none

/-- A palette's shade of a colour: `palette[2c+1 : 2c]` (R94, R95, R789). -/
def shade (palette : Byte) (colour : Nat) : BitVec 2 := BitVec.ofNat 2 (palette.toNat / 4 ^ colour)

/-- `out` of R789 for pixel x of the line. -/
def Ppu.pixel (p : Ppu) (vram : Memory) (x : Nat) : BitVec 2 :=
  let bgc := p.bgColour vram x
  match p.topSprite vram x with
  | some (sp, sc) =>
    if sp.attr.getLsbD 7 && bgc != 0 then shade p.bgp bgc
    else shade (if sp.attr.getLsbD 4 then p.obp1 else p.obp0) sc
  | none => shade p.bgp bgc

/-! ### The dot (R780) -/

/-- `Mode(ly, d)` of R780, with the line's mode 3 length L. -/
def modeOf (ly : Byte) (d len : Nat) : Mode :=
  if 144 ≤ ly.toNat then .vblank
  else if d < 80 then .oamScan
  else if d < 80 + len then .drawing
  else .hblank

/-- `FrameDone` of R804. -/
def frameDone (s : State) : State :=
  { s with
    ppu := { s.ppu with wyLatch := false, windowLine := 0 }
    host := { s.host with
      framesDone := s.host.framesDone + 1
      lcdFrame := if s.params.headless then s.host.lcdFrame else some s.ppu.frame } }

/-- The position part of a dot: dot, LY, and the end of the frame (R780). -/
def advanceDot (s : State) : State :=
  if s.ppu.dot + 1 = 456 then
    if s.ppu.ly = 153 then frameDone { s with ppu := { s.ppu with dot := 0, ly := 0 } }
    else { s with ppu := { s.ppu with dot := 0, ly := s.ppu.ly + 1 } }
  else { s with ppu := { s.ppu with dot := s.ppu.dot + 1 } }

/-- `mode3_len(line)` of R784: the default formula, or the free function within its bound (log 18). -/
def mode3Length (policy : Mode3Len) (p : Ppu) : Nat :=
  match policy with
  | .standard => 172 + p.scx.toNat % 8 + (if p.windowActive then 6 else 0) + 6 * p.sprites.length
  | .free => 172 + (Config.mode3LenFree p.scx p.windowActive (p.sprites.map fun sp => [sp.y, sp.x, sp.tile, sp.attr])).val

/-- Entry to mode 3: the WY latch (D34), the OAM scan (R787), and the line's mode 3 length (R784). -/
def enterDrawing (s : State) : State :=
  let p := { s.ppu with
    wyLatch := s.ppu.wyLatch || decide (s.ppu.ly = s.ppu.wy)
    sprites := oamScan s.oam s.ppu.ly.toNat s.ppu.objHeight
    windowDrawn := false }
  { s with ppu := { p with mode3Len := mode3Length s.params.mode3Len p } }

/-- Entry to mode 0: `window_line` increments after a line that drew a window pixel (R788, log 17). -/
def enterHblank (s : State) : State :=
  if s.ppu.windowDrawn then
    { s with ppu := { s.ppu with windowLine := s.ppu.windowLine + 1, windowDrawn := false } }
  else s

/-- `EnterMode` of R780: mode 1 requests VBlank (R781). -/
def enterMode (m : Mode) (s : State) : State :=
  match m with
  | .hblank => enterHblank s
  | .vblank => s.request 0
  | .oamScan => s
  | .drawing => enterDrawing s

/-- The mode part of a dot (R780). -/
def updateMode (s : State) : State :=
  let m := modeOf s.ppu.ly s.ppu.dot s.ppu.mode3Len
  if m = s.ppu.mode then s else enterMode m { s with ppu := { s.ppu with mode := m } }

/-- Whether pixel x of the line is sampled at the dot `after` dots after mode 3 entry (`render_sample`, D34,
log 17). -/
def samplesPixel (s : State) (after x : Nat) : Bool :=
  match s.params.renderSample with
  | .atEntry => after == 0
  | .atDots offsets => offsets.getD x 0 == after
  | .free => Config.sampleFree s.host.framesDone s.ppu.ly x % s.ppu.mode3Len == after

/-- Whether any pixel of the line is sampled at that dot. -/
def samplesAny (s : State) (after : Nat) : Bool :=
  match s.params.renderSample with
  | .atEntry => after == 0
  | .atDots _ => (List.range 160).any (samplesPixel s after)
  | .free => (List.range 160).any (samplesPixel s after)

/-- The pixels of the line sampled at this dot, into row LY of the frame buffer (R789). With the
default only the dot of mode 3 entry samples. A pixel whose offset in a list is not below the line's mode 3 length is
never drawn: the frame keeps its old value, and no window pixel is counted for it (DESIGN CHOICE, log 33). -/
def renderDot (s : State) : State :=
  let p := s.ppu
  let after := p.dot - 80
  if decide (p.mode = .drawing) && samplesAny s after then
    let old := p.frame.getD p.ly.toNat []
    let row := (List.range 160).map fun x =>
      if samplesPixel s after x then p.pixel s.vram x else old.getD x 0
    let drawn := (List.range 160).any fun x => samplesPixel s after x && p.windowAt x
    { s with ppu := { p with frame := p.frame.set p.ly.toNat row, windowDrawn := p.windowDrawn || drawn } }
  else s

/-- `PpuDot` of R780. -/
def ppuDot (s : State) : State :=
  if s.ppu.lcdOn then statUpdate (renderDot (updateMode (advanceDot s))) else s

/-! ### CPU writes -/

/-- A write to LCDC (R88, R785): bit 7 going off stops the PPU at LY 0, dot 0, mode 0; going on restarts
it at LY 0, dot 0, mode 2 with the window state reset. -/
def Ppu.writeLcdc (p : Ppu) (v : Byte) : Ppu :=
  let q := { p with lcdc := v }
  if p.lcdOn && !q.lcdOn then { q with ly := 0, dot := 0, mode := .hblank }
  else if !p.lcdOn && q.lcdOn then
    { q with ly := 0, dot := 0, mode := .oamScan, windowLine := 0, wyLatch := false, windowDrawn := false }
  else q

/-- A write to STAT stores bits 6..3 (R89, D33). -/
def Ppu.writeStat (p : Ppu) (v : Byte) : Ppu := { p with statSel := BitVec.ofNat 4 (v.toNat / 8) }

end Sys2Proof.Machine
end

