-- ==== Sys2Proof/Machine/Bus.lean ====
section
/-! DEFINITION. The address decoder: the memory map, the I/O registers and the access locks
(spec/20_memory.md R130 to R155; spec/10_state.md R70 to R98; conflicts C1, C2). Every access is one byte. -/

namespace Sys2Proof.Machine

/-! ### I/O registers 0xFF00–0xFF7F, by the address's low byte (R72, R144) -/

/-- A read of an I/O register. Addresses with no register read 0xFF (R98). -/
def ioRead (s : State) (r : Nat) : Byte :=
  match r with
  | 0x00 => s.joypad.readP1
  | 0x01 => s.serial.sb
  | 0x02 => 0x7E ||| (s.serial.sc &&& 0x81)
  | 0x04 => hiByte s.timer.counter
  | 0x05 => s.timer.tima
  | 0x06 => s.timer.tma
  | 0x07 => BitVec.ofNat 8 (0xF8 + s.timer.tac.toNat)
  | 0x0F => BitVec.ofNat 8 (0xE0 + s.intr.iflag.toNat)
  | 0x40 => s.ppu.lcdc
  | 0x41 => s.ppu.readStat
  | 0x42 => s.ppu.scy
  | 0x43 => s.ppu.scx
  | 0x44 => s.ppu.ly
  | 0x45 => s.ppu.lyc
  | 0x46 => s.dma.reg
  | 0x47 => s.ppu.bgp
  | 0x48 => s.ppu.obp0
  | 0x49 => s.ppu.obp1
  | 0x4A => s.ppu.wy
  | 0x4B => s.ppu.wx
  | _ => if 0x10 ≤ r ∧ r ≤ 0x3F then s.apu.read r else 0xFF

/-- A write to 0xFF46 starts an OAM DMA, restarting an active one (R750). -/
def Dma.start (v : Byte) : Dma := { reg := v, source := v, index := 0, active := true }

/-- A write to 0xFF50: a non-zero value unmaps the boot ROM for good (R136). -/
def Boot.write (b : Boot) (v : Byte) : Boot := { b with mapped := b.mapped && decide (v = 0) }

/-- A write to an I/O register. Addresses with no register, LY and STAT's read-only bits ignore it
(R89, R91, R98). Writes to STAT, LYC and LCDC update the STAT interrupt at once (R783). -/
def ioWrite (s : State) (r : Nat) (v : Byte) : State :=
  match r with
  | 0x00 => { s with joypad := s.joypad.writeP1 v }
  | 0x01 => { s with serial := { s.serial with sb := v } }
  | 0x02 => { s with serial := { s.serial with sc := v &&& 0x81 } }
  | 0x04 => { s with timer := s.timer.writeDiv }
  | 0x05 => { s with timer := s.timer.writeTima v }
  | 0x06 => { s with timer := s.timer.writeTma v }
  | 0x07 => { s with timer := s.timer.writeTac s.params.tacWriteGlitch v }
  | 0x0F => { s with intr := { s.intr with iflag := BitVec.ofNat 5 v.toNat } }
  | 0x40 => statUpdate { s with ppu := s.ppu.writeLcdc v }
  | 0x41 => statUpdate { s with ppu := s.ppu.writeStat v }
  | 0x42 => { s with ppu := { s.ppu with scy := v } }
  | 0x43 => { s with ppu := { s.ppu with scx := v } }
  | 0x45 => statUpdate { s with ppu := { s.ppu with lyc := v } }
  | 0x46 => { s with dma := Dma.start v }
  | 0x47 => { s with ppu := { s.ppu with bgp := v } }
  | 0x48 => { s with ppu := { s.ppu with obp0 := v } }
  | 0x49 => { s with ppu := { s.ppu with obp1 := v } }
  | 0x4A => { s with ppu := { s.ppu with wy := v } }
  | 0x4B => { s with ppu := { s.ppu with wx := v } }
  | 0x50 => { s with boot := s.boot.write v }
  | _ => if 0x10 ≤ r ∧ r ≤ 0x3F then { s with apu := s.apu.write r v } else s

/-! ### The memory map (R135), without the locks -/

/-- A read of 0x0000–0x7FFF: the boot ROM overlay while it is mapped, else the cartridge (R136, R137). -/
def romRead (s : State) (a : Nat) : Byte :=
  match s.boot.rom with
  | some image => if s.boot.mapped && decide (a < 0x100) then image.read a else s.cart.readRom a
  | none => s.cart.readRom a

/-- `RawRead`: the memory map without any lock (R135, R155). -/
def rawRead (s : State) (addr : Word) : Byte :=
  let a := addr.toNat
  if a < 0x8000 then romRead s a
  else if a < 0xA000 then s.vram.read (a - 0x8000)
  else if a < 0xC000 then s.cart.readRam a
  else if a < 0xE000 then s.wram.read (a - 0xC000)
  else if a < 0xFE00 then s.wram.read (a - 0xE000)
  else if a < 0xFEA0 then s.oam.read (a - 0xFE00)
  else if a < 0xFF00 then 0xFF
  else if a < 0xFF80 then ioRead s (a - 0xFF00)
  else if a < 0xFFFF then s.hram.read (a - 0xFF80)
  else s.intr.ie

/-- A write through the memory map without any lock (R135 to R146). -/
def rawWrite (s : State) (addr : Word) (v : Byte) : State :=
  let a := addr.toNat
  if a < 0x8000 then { s with cart := s.cart.writeRom a v }
  else if a < 0xA000 then { s with vram := s.vram.write (a - 0x8000) v }
  else if a < 0xC000 then { s with cart := s.cart.writeRam a v }
  else if a < 0xE000 then { s with wram := s.wram.write (a - 0xC000) v }
  else if a < 0xFE00 then { s with wram := s.wram.write (a - 0xE000) v }
  else if a < 0xFEA0 then { s with oam := s.oam.write (a - 0xFE00) v }
  else if a < 0xFF00 then s
  else if a < 0xFF80 then ioWrite s (a - 0xFF00) v
  else if a < 0xFFFF then { s with hram := s.hram.write (a - 0xFF80) v }
  else { s with intr := { s.intr with ie := v } }

/-! ### The locks (R150 to R154) -/

/-- 0xFF80–0xFFFE. -/
def isHram (addr : Word) : Bool := decide (0xFF80 ≤ addr.toNat) && decide (addr.toNat < 0xFFFF)

/-- 0x8000–0x9FFF. -/
def isVram (addr : Word) : Bool := decide (0x8000 ≤ addr.toNat) && decide (addr.toNat < 0xA000)

/-- 0xFE00–0xFE9F. -/
def isOam (addr : Word) : Bool := decide (0xFE00 ≤ addr.toNat) && decide (addr.toNat < 0xFEA0)

/-- The VRAM lock: LCD on and mode 3 (R152). -/
def vramLocked (s : State) : Bool := s.ppu.lcdOn && decide (s.ppu.mode = .drawing)

/-- The OAM lock: LCD on and mode 2 or 3, or DMA active (R153). -/
def oamLocked (s : State) : Bool :=
  (s.ppu.lcdOn && (decide (s.ppu.mode = .oamScan) || decide (s.ppu.mode = .drawing))) || s.dma.active

/-- Whether a CPU read is locked out (R150, R152, R153). -/
def readLocked (s : State) (addr : Word) : Bool :=
  (s.dma.active && !isHram addr) || (isVram addr && vramLocked s) || (isOam addr && oamLocked s)

/-- Whether a CPU write is dropped (R151, R152, R153). -/
def writeLocked (s : State) (addr : Word) : Bool :=
  (s.dma.active && decide (s.params.dmaCpuWrites = .droppedOutsideHram) && !isHram addr) ||
    (isVram addr && vramLocked s) || (isOam addr && oamLocked s)

/-- `MemRead(addr, 1)`: one CPU bus read (R13); a locked read gives 0xFF. -/
def busRead (s : State) (addr : Word) : Byte := if readLocked s addr then 0xFF else rawRead s addr

/-- `MemWrite(addr, 1, v)`: one CPU bus write (R13); a locked write is dropped. -/
def busWrite (s : State) (addr : Word) (v : Byte) : State :=
  if writeLocked s addr then s else rawWrite s addr v

/-! ### OAM DMA (R751, R155) -/

/-- `DmaM` of R751: one byte per M-cycle, past every lock. -/
def dmaM (s : State) : State :=
  if s.dma.active then
    let v := rawRead s (BitVec.ofNat 16 (s.dma.source.toNat * 0x100 + s.dma.index))
    { s with
      oam := s.oam.write s.dma.index v
      dma := { s.dma with index := s.dma.index + 1, active := decide (s.dma.index + 1 ≠ 160) } }
  else s

end Sys2Proof.Machine
end

