-- ==== Sys2Proof/Machine/Ops.lean ====
section
/-! DEFINITION. The named operations over registers, stack and control state that the meanings share, with
taking the one exception (R700), taking an interrupt (R740, R743) and the return from one (R560).
Rules: spec/00_scope.md R12 to R15, spec/10_state.md R50 to R59, spec/60_exceptions.md. -/

namespace Sys2Proof.Machine

/-! ### Registers (R50 to R55) -/

/-- The seven 8-bit registers an encoding field can select (R233); F is reached only as a whole. -/
inductive Reg where
  | a | b | c | d | e | h | l
deriving DecidableEq, Repr

/-- The pairs and SP of `r16[p]` (R234). -/
inductive Pair where
  | bc | de | hl | sp
deriving DecidableEq, Repr

/-- The pairs of `r16stk[p]` (R234). -/
inductive StackPair where
  | bc | de | hl | af
deriving DecidableEq, Repr

/-- F as a byte: Z, N, H, C in bits 7..4, the low nibble 0 (R51, R52). -/
def Flags.toByte (f : Flags) : Byte := bitAt f.z 7 ||| bitAt f.n 6 ||| bitAt f.h 5 ||| bitAt f.c 4

/-- What a write of `v` to F stores: `v & 0xF0` (R52). -/
def Flags.ofByte (v : Byte) : Flags :=
  { z := v.getLsbD 7, n := v.getLsbD 6, h := v.getLsbD 5, c := v.getLsbD 4 }

/-- The carry flag as the number `F.C` of the pseudocode. -/
def Flags.carry (f : Flags) : Nat := if f.c then 1 else 0

/-- Read a register. -/
def Cpu.reg (cpu : Cpu) (r : Reg) : Byte :=
  match r with
  | .a => cpu.a
  | .b => cpu.b
  | .c => cpu.c
  | .d => cpu.d
  | .e => cpu.e
  | .h => cpu.h
  | .l => cpu.l

/-- Write a register. -/
def Cpu.setReg (cpu : Cpu) (r : Reg) (v : Byte) : Cpu :=
  match r with
  | .a => { cpu with a := v }
  | .b => { cpu with b := v }
  | .c => { cpu with c := v }
  | .d => { cpu with d := v }
  | .e => { cpu with e := v }
  | .h => { cpu with h := v }
  | .l => { cpu with l := v }

/-- Read a pair, the first-named register high (R53), or SP. -/
def Cpu.pair (cpu : Cpu) (p : Pair) : Word :=
  match p with
  | .bc => mkWord cpu.b cpu.c
  | .de => mkWord cpu.d cpu.e
  | .hl => mkWord cpu.h cpu.l
  | .sp => cpu.sp

/-- Write both halves of a pair (R12, R53), or SP. -/
def Cpu.setPair (cpu : Cpu) (p : Pair) (v : Word) : Cpu :=
  match p with
  | .bc => { cpu with b := hiByte v, c := loByte v }
  | .de => { cpu with d := hiByte v, e := loByte v }
  | .hl => { cpu with h := hiByte v, l := loByte v }
  | .sp => { cpu with sp := v }

/-- Read a stack pair; for AF the value is `{A, F}` (R353). -/
def Cpu.stackPair (cpu : Cpu) (p : StackPair) : Word :=
  match p with
  | .bc => mkWord cpu.b cpu.c
  | .de => mkWord cpu.d cpu.e
  | .hl => mkWord cpu.h cpu.l
  | .af => mkWord cpu.a cpu.f.toByte

/-- Write a stack pair; for AF the low nibble of F is discarded (R354, R356). -/
def Cpu.setStackPair (cpu : Cpu) (p : StackPair) (v : Word) : Cpu :=
  match p with
  | .bc => { cpu with b := hiByte v, c := loByte v }
  | .de => { cpu with d := hiByte v, e := loByte v }
  | .hl => { cpu with h := hiByte v, l := loByte v }
  | .af => { cpu with a := hiByte v, f := Flags.ofByte (loByte v) }

def State.reg (s : State) (r : Reg) : Byte := s.cpu.reg r
def State.pair (s : State) (p : Pair) : Word := s.cpu.pair p
def State.stackPair (s : State) (p : StackPair) : Word := s.cpu.stackPair p
def State.setReg (s : State) (r : Reg) (v : Byte) : State := { s with cpu := s.cpu.setReg r v }
def State.setPair (s : State) (p : Pair) (v : Word) : State := { s with cpu := s.cpu.setPair p v }
def State.setStackPair (s : State) (p : StackPair) (v : Word) : State :=
  { s with cpu := s.cpu.setStackPair p v }
def State.setFlags (s : State) (f : Flags) : State := { s with cpu := { s.cpu with f := f } }
def State.setSp (s : State) (v : Word) : State := { s with cpu := { s.cpu with sp := v } }
def State.setPc (s : State) (v : Word) : State := { s with cpu := { s.cpu with pc := v } }
def State.setIme (s : State) (v : Bool) : State := { s with cpu := { s.cpu with ime := v } }
def State.setImePending (s : State) (v : Bool) : State := { s with cpu := { s.cpu with imePending := v } }
def State.setHalt (s : State) (v : RunState) : State := { s with cpu := { s.cpu with halt := v } }

/-- The executed instruction's M-cycles, handed to the driver (R16, R20, log 11). -/
def State.spend (s : State) (n : Nat) : State := { s with opCycles := n }

/-! ### Stack (R14, R54) -/

/-- `Push16(v)`: the high byte at SP − 1, then the low byte at SP − 2. -/
def push16 (s : State) (v : Word) : State :=
  let s1 := s.setSp (s.cpu.sp - 1)
  let s2 := busWrite s1 s1.cpu.sp (hiByte v)
  let s3 := s2.setSp (s2.cpu.sp - 1)
  busWrite s3 s3.cpu.sp (loByte v)

/-- The value `Pop16()` returns: the low byte at SP, the high byte at SP + 1. -/
def popValue (s : State) : Word := mkWord (busRead s (s.cpu.sp + 1)) (busRead s s.cpu.sp)

/-- The state `Pop16()` leaves: SP advanced by 2. -/
def popped (s : State) : State := s.setSp (s.cpu.sp + 2)

/-! ### The exception, interrupts and the return (R700, R740 to R744, R560) -/

/-- `raise Fatal(opcode, addr)` (R700): record both, put PC back on the opcode; nothing else changes.
`addr` is PC − 1, PC having advanced past the opcode byte (R611). -/
def raiseFatal (s : State) (opcode : Byte) : State :=
  { s with cpu := { s.cpu with fatal := some (opcode, s.cpu.pc - 1), pc := s.cpu.pc - 1 } }

/-- The vector of interrupt k: `0x0040 + 8·k` (R720). -/
def interruptVector (k : Nat) : Word := BitVec.ofNat 16 (0x40 + 8 * k)

/-- Taking interrupt k (R740, R743): clear its IF bit, IME and the EI latch, push PC, go to its vector.
Its five M-cycles are ticked by the driver. -/
def takeInterrupt (s : State) (k : Nat) : State :=
  let s1 := { s with
    intr := { s.intr with iflag := s.intr.iflag &&& ~~~(BitVec.ofNat 5 (2 ^ k)) }
    cpu := { s.cpu with ime := false, imePending := false } }
  (push16 s1 s1.cpu.pc).setPc (interruptVector k)

/-- The return from an interrupt (R560, R744): pop PC, IME set at once. -/
def returnFromInterrupt (s : State) : State :=
  ((popped s).setPc (popValue s)).setIme true

end Sys2Proof.Machine
end

