-- ==== Sys2Proof/Machine/Operands.lean ====
section
/-! DEFINITION. Operand forms: sources, destinations, addresses and conditions (spec/30_encoding.md R233 to
R236; spec/40_load8.md R300; spec/45_control.md R550). -/

namespace Sys2Proof.Machine

/-- The operand `r8[k]` (R233): a register, or the byte in memory at HL. -/
inductive R8 where
  | reg (r : Reg)
  | atHl
deriving DecidableEq, Repr

/-- The source of a two-operand ALU operation (R400): `r8[z]` or an immediate byte. -/
inductive Src where
  | r8 (o : R8)
  | imm (n : Byte)
deriving DecidableEq, Repr

/-- `r8[k]` by its encoding field (R233). -/
def r8Field (k : Nat) : R8 :=
  match k with
  | 0 => .reg .b
  | 1 => .reg .c
  | 2 => .reg .d
  | 3 => .reg .e
  | 4 => .reg .h
  | 5 => .reg .l
  | 6 => .atHl
  | _ => .reg .a

/-- Read `r8[k]` (R233, R504). -/
def readR8 (s : State) (o : R8) : Byte :=
  match o with
  | .reg r => s.reg r
  | .atHl => busRead s (s.pair .hl)

/-- Write `r8[k]` (R233, R504): `WB(v)`. -/
def writeR8 (s : State) (o : R8) (v : Byte) : State :=
  match o with
  | .reg r => s.setReg r v
  | .atHl => busWrite s (s.pair .hl) v

/-- Read an ALU source (R400). -/
def readSrc (s : State) (src : Src) : Byte :=
  match src with
  | .r8 o => readR8 s o
  | .imm n => n

/-- The high-page address `0xFF00 + n` (R236). -/
def highPage (n : Byte) : Word := 0xFF00 + zext16 n

/-- The conditions `cc[k]` (R235). -/
inductive Cond where
  | nz | z | nc | c
deriving DecidableEq, Repr

/-- `cond(cc)` (R550). -/
def condHolds (f : Flags) (cc : Cond) : Bool :=
  match cc with
  | .nz => !f.z
  | .z => f.z
  | .nc => !f.c
  | .c => f.c

end Sys2Proof.Machine
end

