-- ==== Sys2Proof/Machine/Flags.lean ====
section
/-! DEFINITION. Every result and flag computation (spec/42_alu8.md, spec/43_alu16.md,
spec/44_rotate_shift_bit.md, spec/41_load16.md R359, spec/46_misc.md R606 to R609). Each follows its rule's pseudocode: operands
as numbers, the exact result, then the narrowing (R413). -/

namespace Sys2Proof.Machine

/-- A result byte with the flags written beside it. -/
structure Alu where
  value : Byte
  flags : Flags
deriving DecidableEq, Repr

/-! ### 8-bit ALU (R401 to R410) -/

/-- `A + s + c` (R401 with c = 0, R402). -/
def addWithCarry (a s : Byte) (c : Nat) : Alu :=
  let t := a.toNat + s.toNat + c
  { value := BitVec.ofNat 8 t
    flags :=
      { z := decide (t % 256 = 0)
        n := false
        h := decide (a.toNat % 16 + s.toNat % 16 + c > 0xF)
        c := decide (t > 0xFF) } }

/-- `A − s − c` (R403 and R408 with c = 0, R404). -/
def subWithBorrow (a s : Byte) (c : Nat) : Alu :=
  let t := (a.toNat : Int) - s.toNat - c
  { value := BitVec.ofInt 8 t
    flags :=
      { z := decide (t % 256 = 0)
        n := true
        h := decide (a.toNat % 16 < s.toNat % 16 + c)
        c := decide (a.toNat < s.toNat + c) } }

/-- R405. -/
def andResult (a s : Byte) : Alu :=
  { value := a &&& s, flags := { z := decide (a &&& s = 0), n := false, h := true, c := false } }

/-- R406. -/
def xorResult (a s : Byte) : Alu :=
  { value := a ^^^ s, flags := { z := decide (a ^^^ s = 0), n := false, h := false, c := false } }

/-- R407. -/
def orResult (a s : Byte) : Alu :=
  { value := a ||| s, flags := { z := decide (a ||| s = 0), n := false, h := false, c := false } }

/-- R409, R411: C is kept. -/
def incResult (f : Flags) (v : Byte) : Alu :=
  { value := v + 1, flags := { z := decide (v + 1 = 0), n := false, h := decide (v.toNat % 16 = 0xF), c := f.c } }

/-- R410, R412: C is kept. -/
def decResult (f : Flags) (v : Byte) : Alu :=
  { value := v - 1, flags := { z := decide (v - 1 = 0), n := true, h := decide (v.toNat % 16 = 0x0), c := f.c } }

/-! ### 16-bit ALU (R450, R453, R359) -/

/-- The flags of `HL + rr` (R450): Z is kept. -/
def addHlFlags (f : Flags) (hl rr : Word) : Flags :=
  { z := f.z
    n := false
    h := decide (hl.toNat % 4096 + rr.toNat % 4096 > 0xFFF)
    c := decide (hl.toNat + rr.toNat > 0xFFFF) }

/-- The flags of `SP + e8` (R359, R453): from the unsigned low-byte sum. -/
def addSpFlags (sp : Word) (e : Byte) : Flags :=
  { z := false
    n := false
    h := decide (sp.toNat % 16 + e.toNat % 16 > 0xF)
    c := decide (sp.toNat % 256 + e.toNat > 0xFF) }

/-! ### Rotates, shifts and bits (R500 to R515) -/

/-- The eight operations `rot[y]` (R238). -/
inductive Rot where
  | rlc | rrc | rl | rr | sla | sra | swap | srl
deriving DecidableEq, Repr

/-- `rot[y]` by its encoding field (R238). -/
def rotField (y : Nat) : Rot :=
  match y with
  | 0 => .rlc
  | 1 => .rrc
  | 2 => .rl
  | 3 => .rr
  | 4 => .sla
  | 5 => .sra
  | 6 => .swap
  | _ => .srl

/-- `v'` of R505 to R512, as a byte, for the carry-in c = F.C. -/
def rotValue (op : Rot) (v : Byte) (c : Nat) : Byte :=
  match op with
  | .rlc => BitVec.ofNat 8 (v.toNat * 2 + v.toNat / 128)
  | .rrc => BitVec.ofNat 8 (v.toNat / 2 + v.toNat % 2 * 128)
  | .rl => BitVec.ofNat 8 (v.toNat * 2 + c)
  | .rr => BitVec.ofNat 8 (v.toNat / 2 + c * 128)
  | .sla => BitVec.ofNat 8 (v.toNat * 2)
  | .sra => BitVec.ofNat 8 (v.toNat / 2 + v.toNat / 128 * 128)
  | .swap => BitVec.ofNat 8 (v.toNat % 16 * 16 + v.toNat / 16)
  | .srl => BitVec.ofNat 8 (v.toNat / 2)

/-- The carry out of R505 to R512: the bit shifted out; SWAP clears it. -/
def rotCarry (op : Rot) (v : Byte) : Bool :=
  match op with
  | .rlc | .rl | .sla => v.getLsbD 7
  | .rrc | .rr | .sra | .srl => v.getLsbD 0
  | .swap => false

/-- A CB rotate or shift (R505 to R512): Z from the result. -/
def rotResult (op : Rot) (f : Flags) (v : Byte) : Alu :=
  let r := rotValue op v f.carry
  { value := r, flags := { z := decide (r = 0), n := false, h := false, c := rotCarry op v } }

/-- An accumulator rotate (R500 to R503): the same result with Z always 0. -/
def rotAccResult (op : Rot) (f : Flags) (v : Byte) : Alu :=
  { value := rotValue op v f.carry, flags := { z := false, n := false, h := false, c := rotCarry op v } }

/-- BIT (R513): C is kept. -/
def bitFlags (f : Flags) (k : Nat) (v : Byte) : Flags :=
  { z := !v.getLsbD k, n := false, h := true, c := f.c }

/-- RES (R514): `v & ~(1 << k)`. -/
def resValue (k : Nat) (v : Byte) : Byte := v &&& ~~~(BitVec.ofNat 8 (2 ^ k))

/-- SET (R515): `v | (1 << k)`. -/
def setValue (k : Nat) (v : Byte) : Byte := v ||| BitVec.ofNat 8 (2 ^ k)

/-! ### DAA, CPL, SCF, CCF (R606 to R609) -/

/-- DAA's correction (R606). -/
def daaCorrection (f : Flags) (a : Byte) : Nat :=
  if f.n then (if f.h then 0x06 else 0) + (if f.c then 0x60 else 0)
  else (if f.h || decide (a.toNat % 16 > 0x9) then 0x06 else 0) + (if f.c || decide (a.toNat > 0x99) then 0x60 else 0)

/-- DAA (R606): N is kept, H is 0. -/
def daaResult (f : Flags) (a : Byte) : Alu :=
  let corr := daaCorrection f a
  let r : Byte := if f.n then BitVec.ofInt 8 ((a.toNat : Int) - corr) else BitVec.ofNat 8 (a.toNat + corr)
  { value := r
    flags := { z := decide (r = 0), n := f.n, h := false, c := f.c || (!f.n && decide (a.toNat > 0x99)) } }

/-- CPL (R607): Z and C are kept. -/
def cplResult (f : Flags) (a : Byte) : Alu :=
  { value := ~~~a, flags := { z := f.z, n := true, h := true, c := f.c } }

/-- SCF (R608): Z is kept. -/
def scfFlags (f : Flags) : Flags := { z := f.z, n := false, h := false, c := true }

/-- CCF (R609): Z is kept. -/
def ccfFlags (f : Flags) : Flags := { z := f.z, n := false, h := false, c := !f.c }

end Sys2Proof.Machine
end

