-- ==== Sys2Proof/Machine/Alu16.lean ====
section
/-! DEFINITION. 16-bit ALU (spec/43_alu16.md). -/

namespace Sys2Proof.Machine

/-- `HL <- HL + rr` (R450). -/
def addHl (p : Pair) (s : State) : State :=
  ((s.setPair .hl (s.pair .hl + s.pair p)).setFlags (addHlFlags s.cpu.f (s.pair .hl) (s.pair p))).spend 2

/-- `rr <- rr + 1` (R451). -/
def incPair (p : Pair) (s : State) : State := (s.setPair p (s.pair p + 1)).spend 2

/-- `rr <- rr - 1` (R452). -/
def decPair (p : Pair) (s : State) : State := (s.setPair p (s.pair p - 1)).spend 2

/-- `SP <- SP + sext_16(e)` (R453). -/
def addSp (e : Byte) (s : State) : State :=
  ((s.setSp (s.cpu.sp + sext16 e)).setFlags (addSpFlags s.cpu.sp e)).spend 4

/-- 03: `INC BC` (R451). -/
def execIncBc (s : State) : Result := .next (incPair .bc s)

/-- 09: `ADD HL,BC` (R450). -/
def execAddHlBc (s : State) : Result := .next (addHl .bc s)

/-- 0B: `DEC BC` (R452). -/
def execDecBc (s : State) : Result := .next (decPair .bc s)

/-- 13: `INC DE` (R451). -/
def execIncDe (s : State) : Result := .next (incPair .de s)

/-- 19: `ADD HL,DE` (R450). -/
def execAddHlDe (s : State) : Result := .next (addHl .de s)

/-- 1B: `DEC DE` (R452). -/
def execDecDe (s : State) : Result := .next (decPair .de s)

/-- 23: `INC HL` (R451). -/
def execIncHl (s : State) : Result := .next (incPair .hl s)

/-- 29: `ADD HL,HL` (R450). -/
def execAddHlHl (s : State) : Result := .next (addHl .hl s)

/-- 2B: `DEC HL` (R452). -/
def execDecHl (s : State) : Result := .next (decPair .hl s)

/-- 33: `INC SP` (R451). -/
def execIncSp (s : State) : Result := .next (incPair .sp s)

/-- 39: `ADD HL,SP` (R450). -/
def execAddHlSp (s : State) : Result := .next (addHl .sp s)

/-- 3B: `DEC SP` (R452). -/
def execDecSp (s : State) : Result := .next (decPair .sp s)

/-- E8: `ADD SP,e8` (R453). -/
def execAddSpE8 (e : Byte) (s : State) : Result := .next (addSp e s)

end Sys2Proof.Machine
end

