-- ==== Sys2Proof/Machine/Alu8.lean ====
section
/-! DEFINITION. 8-bit ALU (spec/42_alu8.md). -/

namespace Sys2Proof.Machine

/-- The eight two-operand operations `alu[y]` (R237). -/
inductive AluOp where
  | add | adc | sub | sbc | and | xor | or | cp
deriving DecidableEq, Repr

/-- The result and flags of an operation on A and the source (R401 to R408). -/
def aluResult (op : AluOp) (f : Flags) (a v : Byte) : Alu :=
  match op with
  | .add => addWithCarry a v 0
  | .adc => addWithCarry a v f.carry
  | .sub => subWithBorrow a v 0
  | .sbc => subWithBorrow a v f.carry
  | .and => andResult a v
  | .xor => xorResult a v
  | .or => orResult a v
  | .cp => { value := a, flags := (subWithBorrow a v 0).flags }

/-- The M-cycles of a two-operand form: 1 for a register, else 2 (R400). -/
def srcCycles (src : Src) : Nat :=
  match src with
  | .r8 (.reg _) => 1
  | .r8 .atHl => 2
  | .imm _ => 2

/-- A two-operand operation (R400 to R408). CP writes A back unchanged. -/
def alu (op : AluOp) (src : Src) (s : State) : State :=
  let r := aluResult op s.cpu.f s.cpu.a (readSrc s src)
  ((s.setReg .a r.value).setFlags r.flags).spend (srcCycles src)

/-- The M-cycles of INC and DEC: 1 for a register, 3 for (HL) (R409 to R412). -/
def incCycles (o : R8) : Nat :=
  match o with
  | .reg _ => 1
  | .atHl => 3

/-- INC (R409, R411). -/
def incR8 (o : R8) (s : State) : State :=
  let r := incResult s.cpu.f (readR8 s o)
  ((writeR8 s o r.value).setFlags r.flags).spend (incCycles o)

/-- DEC (R410, R412). -/
def decR8 (o : R8) (s : State) : State :=
  let r := decResult s.cpu.f (readR8 s o)
  ((writeR8 s o r.value).setFlags r.flags).spend (incCycles o)

/-- 04: `INC B` (R409). -/
def execIncB (s : State) : Result := .next (incR8 (.reg .b) s)

/-- 05: `DEC B` (R410). -/
def execDecB (s : State) : Result := .next (decR8 (.reg .b) s)

/-- 0C: `INC C` (R409). -/
def execIncC (s : State) : Result := .next (incR8 (.reg .c) s)

/-- 0D: `DEC C` (R410). -/
def execDecC (s : State) : Result := .next (decR8 (.reg .c) s)

/-- 14: `INC D` (R409). -/
def execIncD (s : State) : Result := .next (incR8 (.reg .d) s)

/-- 15: `DEC D` (R410). -/
def execDecD (s : State) : Result := .next (decR8 (.reg .d) s)

/-- 1C: `INC E` (R409). -/
def execIncE (s : State) : Result := .next (incR8 (.reg .e) s)

/-- 1D: `DEC E` (R410). -/
def execDecE (s : State) : Result := .next (decR8 (.reg .e) s)

/-- 24: `INC H` (R409). -/
def execIncH (s : State) : Result := .next (incR8 (.reg .h) s)

/-- 25: `DEC H` (R410). -/
def execDecH (s : State) : Result := .next (decR8 (.reg .h) s)

/-- 2C: `INC L` (R409). -/
def execIncL (s : State) : Result := .next (incR8 (.reg .l) s)

/-- 2D: `DEC L` (R410). -/
def execDecL (s : State) : Result := .next (decR8 (.reg .l) s)

/-- 34: `INC (HL)` (R411). -/
def execIncAtHl (s : State) : Result := .next (incR8 .atHl s)

/-- 35: `DEC (HL)` (R412). -/
def execDecAtHl (s : State) : Result := .next (decR8 .atHl s)

/-- 3C: `INC A` (R409). -/
def execIncA (s : State) : Result := .next (incR8 (.reg .a) s)

/-- 3D: `DEC A` (R410). -/
def execDecA (s : State) : Result := .next (decR8 (.reg .a) s)

/-- 80: `ADD A,B` (R401). -/
def execAddAB (s : State) : Result := .next (alu .add (.r8 (.reg .b)) s)

/-- 81: `ADD A,C` (R401). -/
def execAddAC (s : State) : Result := .next (alu .add (.r8 (.reg .c)) s)

/-- 82: `ADD A,D` (R401). -/
def execAddAD (s : State) : Result := .next (alu .add (.r8 (.reg .d)) s)

/-- 83: `ADD A,E` (R401). -/
def execAddAE (s : State) : Result := .next (alu .add (.r8 (.reg .e)) s)

/-- 84: `ADD A,H` (R401). -/
def execAddAH (s : State) : Result := .next (alu .add (.r8 (.reg .h)) s)

/-- 85: `ADD A,L` (R401). -/
def execAddAL (s : State) : Result := .next (alu .add (.r8 (.reg .l)) s)

/-- 86: `ADD A,(HL)` (R401). -/
def execAddAAtHl (s : State) : Result := .next (alu .add (.r8 .atHl) s)

/-- 87: `ADD A,A` (R401). -/
def execAddAA (s : State) : Result := .next (alu .add (.r8 (.reg .a)) s)

/-- 88: `ADC A,B` (R402). -/
def execAdcAB (s : State) : Result := .next (alu .adc (.r8 (.reg .b)) s)

/-- 89: `ADC A,C` (R402). -/
def execAdcAC (s : State) : Result := .next (alu .adc (.r8 (.reg .c)) s)

/-- 8A: `ADC A,D` (R402). -/
def execAdcAD (s : State) : Result := .next (alu .adc (.r8 (.reg .d)) s)

/-- 8B: `ADC A,E` (R402). -/
def execAdcAE (s : State) : Result := .next (alu .adc (.r8 (.reg .e)) s)

/-- 8C: `ADC A,H` (R402). -/
def execAdcAH (s : State) : Result := .next (alu .adc (.r8 (.reg .h)) s)

/-- 8D: `ADC A,L` (R402). -/
def execAdcAL (s : State) : Result := .next (alu .adc (.r8 (.reg .l)) s)

/-- 8E: `ADC A,(HL)` (R402). -/
def execAdcAAtHl (s : State) : Result := .next (alu .adc (.r8 .atHl) s)

/-- 8F: `ADC A,A` (R402). -/
def execAdcAA (s : State) : Result := .next (alu .adc (.r8 (.reg .a)) s)

/-- 90: `SUB B` (R403). -/
def execSubB (s : State) : Result := .next (alu .sub (.r8 (.reg .b)) s)

/-- 91: `SUB C` (R403). -/
def execSubC (s : State) : Result := .next (alu .sub (.r8 (.reg .c)) s)

/-- 92: `SUB D` (R403). -/
def execSubD (s : State) : Result := .next (alu .sub (.r8 (.reg .d)) s)

/-- 93: `SUB E` (R403). -/
def execSubE (s : State) : Result := .next (alu .sub (.r8 (.reg .e)) s)

/-- 94: `SUB H` (R403). -/
def execSubH (s : State) : Result := .next (alu .sub (.r8 (.reg .h)) s)

/-- 95: `SUB L` (R403). -/
def execSubL (s : State) : Result := .next (alu .sub (.r8 (.reg .l)) s)

/-- 96: `SUB (HL)` (R403). -/
def execSubAtHl (s : State) : Result := .next (alu .sub (.r8 .atHl) s)

/-- 97: `SUB A` (R403). -/
def execSubA (s : State) : Result := .next (alu .sub (.r8 (.reg .a)) s)

/-- 98: `SBC A,B` (R404). -/
def execSbcAB (s : State) : Result := .next (alu .sbc (.r8 (.reg .b)) s)

/-- 99: `SBC A,C` (R404). -/
def execSbcAC (s : State) : Result := .next (alu .sbc (.r8 (.reg .c)) s)

/-- 9A: `SBC A,D` (R404). -/
def execSbcAD (s : State) : Result := .next (alu .sbc (.r8 (.reg .d)) s)

/-- 9B: `SBC A,E` (R404). -/
def execSbcAE (s : State) : Result := .next (alu .sbc (.r8 (.reg .e)) s)

/-- 9C: `SBC A,H` (R404). -/
def execSbcAH (s : State) : Result := .next (alu .sbc (.r8 (.reg .h)) s)

/-- 9D: `SBC A,L` (R404). -/
def execSbcAL (s : State) : Result := .next (alu .sbc (.r8 (.reg .l)) s)

/-- 9E: `SBC A,(HL)` (R404). -/
def execSbcAAtHl (s : State) : Result := .next (alu .sbc (.r8 .atHl) s)

/-- 9F: `SBC A,A` (R404). -/
def execSbcAA (s : State) : Result := .next (alu .sbc (.r8 (.reg .a)) s)

/-- A0: `AND B` (R405). -/
def execAndB (s : State) : Result := .next (alu .and (.r8 (.reg .b)) s)

/-- A1: `AND C` (R405). -/
def execAndC (s : State) : Result := .next (alu .and (.r8 (.reg .c)) s)

/-- A2: `AND D` (R405). -/
def execAndD (s : State) : Result := .next (alu .and (.r8 (.reg .d)) s)

/-- A3: `AND E` (R405). -/
def execAndE (s : State) : Result := .next (alu .and (.r8 (.reg .e)) s)

/-- A4: `AND H` (R405). -/
def execAndH (s : State) : Result := .next (alu .and (.r8 (.reg .h)) s)

/-- A5: `AND L` (R405). -/
def execAndL (s : State) : Result := .next (alu .and (.r8 (.reg .l)) s)

/-- A6: `AND (HL)` (R405). -/
def execAndAtHl (s : State) : Result := .next (alu .and (.r8 .atHl) s)

/-- A7: `AND A` (R405). -/
def execAndA (s : State) : Result := .next (alu .and (.r8 (.reg .a)) s)

/-- A8: `XOR B` (R406). -/
def execXorB (s : State) : Result := .next (alu .xor (.r8 (.reg .b)) s)

/-- A9: `XOR C` (R406). -/
def execXorC (s : State) : Result := .next (alu .xor (.r8 (.reg .c)) s)

/-- AA: `XOR D` (R406). -/
def execXorD (s : State) : Result := .next (alu .xor (.r8 (.reg .d)) s)

/-- AB: `XOR E` (R406). -/
def execXorE (s : State) : Result := .next (alu .xor (.r8 (.reg .e)) s)

/-- AC: `XOR H` (R406). -/
def execXorH (s : State) : Result := .next (alu .xor (.r8 (.reg .h)) s)

/-- AD: `XOR L` (R406). -/
def execXorL (s : State) : Result := .next (alu .xor (.r8 (.reg .l)) s)

/-- AE: `XOR (HL)` (R406). -/
def execXorAtHl (s : State) : Result := .next (alu .xor (.r8 .atHl) s)

/-- AF: `XOR A` (R406). -/
def execXorA (s : State) : Result := .next (alu .xor (.r8 (.reg .a)) s)

/-- B0: `OR B` (R407). -/
def execOrB (s : State) : Result := .next (alu .or (.r8 (.reg .b)) s)

/-- B1: `OR C` (R407). -/
def execOrC (s : State) : Result := .next (alu .or (.r8 (.reg .c)) s)

/-- B2: `OR D` (R407). -/
def execOrD (s : State) : Result := .next (alu .or (.r8 (.reg .d)) s)

/-- B3: `OR E` (R407). -/
def execOrE (s : State) : Result := .next (alu .or (.r8 (.reg .e)) s)

/-- B4: `OR H` (R407). -/
def execOrH (s : State) : Result := .next (alu .or (.r8 (.reg .h)) s)

/-- B5: `OR L` (R407). -/
def execOrL (s : State) : Result := .next (alu .or (.r8 (.reg .l)) s)

/-- B6: `OR (HL)` (R407). -/
def execOrAtHl (s : State) : Result := .next (alu .or (.r8 .atHl) s)

/-- B7: `OR A` (R407). -/
def execOrA (s : State) : Result := .next (alu .or (.r8 (.reg .a)) s)

/-- B8: `CP B` (R408). -/
def execCpB (s : State) : Result := .next (alu .cp (.r8 (.reg .b)) s)

/-- B9: `CP C` (R408). -/
def execCpC (s : State) : Result := .next (alu .cp (.r8 (.reg .c)) s)

/-- BA: `CP D` (R408). -/
def execCpD (s : State) : Result := .next (alu .cp (.r8 (.reg .d)) s)

/-- BB: `CP E` (R408). -/
def execCpE (s : State) : Result := .next (alu .cp (.r8 (.reg .e)) s)

/-- BC: `CP H` (R408). -/
def execCpH (s : State) : Result := .next (alu .cp (.r8 (.reg .h)) s)

/-- BD: `CP L` (R408). -/
def execCpL (s : State) : Result := .next (alu .cp (.r8 (.reg .l)) s)

/-- BE: `CP (HL)` (R408). -/
def execCpAtHl (s : State) : Result := .next (alu .cp (.r8 .atHl) s)

/-- BF: `CP A` (R408). -/
def execCpA (s : State) : Result := .next (alu .cp (.r8 (.reg .a)) s)

/-- C6: `ADD A,d8` (R401). -/
def execAddAD8 (n : Byte) (s : State) : Result := .next (alu .add (.imm n) s)

/-- CE: `ADC A,d8` (R402). -/
def execAdcAD8 (n : Byte) (s : State) : Result := .next (alu .adc (.imm n) s)

/-- D6: `SUB d8` (R403). -/
def execSubD8 (n : Byte) (s : State) : Result := .next (alu .sub (.imm n) s)

/-- DE: `SBC A,d8` (R404). -/
def execSbcAD8 (n : Byte) (s : State) : Result := .next (alu .sbc (.imm n) s)

/-- E6: `AND d8` (R405). -/
def execAndD8 (n : Byte) (s : State) : Result := .next (alu .and (.imm n) s)

/-- EE: `XOR d8` (R406). -/
def execXorD8 (n : Byte) (s : State) : Result := .next (alu .xor (.imm n) s)

/-- F6: `OR d8` (R407). -/
def execOrD8 (n : Byte) (s : State) : Result := .next (alu .or (.imm n) s)

/-- FE: `CP d8` (R408). -/
def execCpD8 (n : Byte) (s : State) : Result := .next (alu .cp (.imm n) s)

end Sys2Proof.Machine
end

