-- ==== Sys2Proof/Machine/Control.lean ====
section
/-! DEFINITION. Control transfer (spec/45_control.md). PC is already the address of the next instruction. -/

namespace Sys2Proof.Machine

/-- `PC <- PC + sext_16(e)` (R551). -/
def jumpRel (e : Byte) (s : State) : State := (s.setPc (s.cpu.pc + sext16 e)).spend 3

/-- R552. -/
def jumpRelIf (cc : Cond) (e : Byte) (s : State) : State :=
  if condHolds s.cpu.f cc then jumpRel e s else s.spend 2

/-- `PC <- a` (R553). -/
def jump (a : Word) (s : State) : State := (s.setPc a).spend 4

/-- R554. -/
def jumpIf (cc : Cond) (a : Word) (s : State) : State :=
  if condHolds s.cpu.f cc then jump a s else s.spend 3

/-- `Push16(PC); PC <- a` (R556). -/
def call (a : Word) (s : State) : State := ((push16 s s.cpu.pc).setPc a).spend 6

/-- R557. -/
def callIf (cc : Cond) (a : Word) (s : State) : State :=
  if condHolds s.cpu.f cc then call a s else s.spend 3

/-- `PC <- Pop16()` (R558). -/
def ret (s : State) : State := ((popped s).setPc (popValue s)).spend 4

/-- R559: 5 M-cycles when taken. -/
def retIf (cc : Cond) (s : State) : State :=
  if condHolds s.cpu.f cc then (ret s).spend 5 else s.spend 2

/-- `Push16(PC); PC <- zext_16(n)` (R562). -/
def restart (n : Byte) (s : State) : State := ((push16 s s.cpu.pc).setPc (zext16 n)).spend 4

/-- 18: `JR e8` (R551). -/
def execJrE8 (e : Byte) (s : State) : Result := .next (jumpRel e s)

/-- 20: `JR NZ,e8` (R552). -/
def execJrNzE8 (e : Byte) (s : State) : Result := .next (jumpRelIf .nz e s)

/-- 28: `JR Z,e8` (R552). -/
def execJrZE8 (e : Byte) (s : State) : Result := .next (jumpRelIf .z e s)

/-- 30: `JR NC,e8` (R552). -/
def execJrNcE8 (e : Byte) (s : State) : Result := .next (jumpRelIf .nc e s)

/-- 38: `JR C,e8` (R552). -/
def execJrCE8 (e : Byte) (s : State) : Result := .next (jumpRelIf .c e s)

/-- C0: `RET NZ` (R559). -/
def execRetNz (s : State) : Result := .next (retIf .nz s)

/-- C2: `JP NZ,a16` (R554). -/
def execJpNzA16 (a : Word) (s : State) : Result := .next (jumpIf .nz a s)

/-- C3: `JP a16` (R553). -/
def execJpA16 (a : Word) (s : State) : Result := .next (jump a s)

/-- C4: `CALL NZ,a16` (R557). -/
def execCallNzA16 (a : Word) (s : State) : Result := .next (callIf .nz a s)

/-- C7: `RST 00h` (R562). -/
def execRst00 (s : State) : Result := .next (restart 0x00 s)

/-- C8: `RET Z` (R559). -/
def execRetZ (s : State) : Result := .next (retIf .z s)

/-- C9: `RET` (R558). -/
def execRet (s : State) : Result := .next (ret s)

/-- CA: `JP Z,a16` (R554). -/
def execJpZA16 (a : Word) (s : State) : Result := .next (jumpIf .z a s)

/-- CC: `CALL Z,a16` (R557). -/
def execCallZA16 (a : Word) (s : State) : Result := .next (callIf .z a s)

/-- CD: `CALL a16` (R556). -/
def execCallA16 (a : Word) (s : State) : Result := .next (call a s)

/-- CF: `RST 08h` (R562). -/
def execRst08 (s : State) : Result := .next (restart 0x08 s)

/-- D0: `RET NC` (R559). -/
def execRetNc (s : State) : Result := .next (retIf .nc s)

/-- D2: `JP NC,a16` (R554). -/
def execJpNcA16 (a : Word) (s : State) : Result := .next (jumpIf .nc a s)

/-- D4: `CALL NC,a16` (R557). -/
def execCallNcA16 (a : Word) (s : State) : Result := .next (callIf .nc a s)

/-- D7: `RST 10h` (R562). -/
def execRst10 (s : State) : Result := .next (restart 0x10 s)

/-- D8: `RET C` (R559). -/
def execRetC (s : State) : Result := .next (retIf .c s)

/-- D9: `RETI` (R560). -/
def execReti (s : State) : Result := .next ((returnFromInterrupt s).spend 4)

/-- DA: `JP C,a16` (R554). -/
def execJpCA16 (a : Word) (s : State) : Result := .next (jumpIf .c a s)

/-- DC: `CALL C,a16` (R557). -/
def execCallCA16 (a : Word) (s : State) : Result := .next (callIf .c a s)

/-- DF: `RST 18h` (R562). -/
def execRst18 (s : State) : Result := .next (restart 0x18 s)

/-- E7: `RST 20h` (R562). -/
def execRst20 (s : State) : Result := .next (restart 0x20 s)

/-- E9: `JP HL` (R555). -/
def execJpHl (s : State) : Result := .next ((s.setPc (s.pair .hl)).spend 1)

/-- EF: `RST 28h` (R562). -/
def execRst28 (s : State) : Result := .next (restart 0x28 s)

/-- F7: `RST 30h` (R562). -/
def execRst30 (s : State) : Result := .next (restart 0x30 s)

/-- FF: `RST 38h` (R562). -/
def execRst38 (s : State) : Result := .next (restart 0x38 s)

end Sys2Proof.Machine
end

