-- ==== Sys2Proof/Machine/Load16.lean ====
section
/-! DEFINITION. 16-bit loads and the stack (spec/41_load16.md). -/

namespace Sys2Proof.Machine

/-- `MemWrite(a, 1, SP[7:0]); MemWrite(a + 1, 1, SP[15:8])` (R351). -/
def storeSp (a : Word) (s : State) : State :=
  (busWrite (busWrite s a (loByte s.cpu.sp)) (a + 1) (hiByte s.cpu.sp)).spend 5

/-- `Push16(rr)` (R353). -/
def pushPair (p : StackPair) (s : State) : State := (push16 s (s.stackPair p)).spend 4

/-- `rr <- Pop16()` (R354, R356). -/
def popPair (p : StackPair) (s : State) : State := ((popped s).setStackPair p (popValue s)).spend 3

/-- `HL <- SP + sext_16(e)` with the flags of R359. -/
def ldHlSp (e : Byte) (s : State) : State :=
  ((s.setPair .hl (s.cpu.sp + sext16 e)).setFlags (addSpFlags s.cpu.sp e)).spend 3

/-- 01: `LD BC,d16` (R350). -/
def execLdBcD16 (nn : Word) (s : State) : Result := .next ((s.setPair .bc nn).spend 3)

/-- 08: `LD (a16),SP` (R351). -/
def execLdAtA16Sp (a : Word) (s : State) : Result := .next (storeSp a s)

/-- 11: `LD DE,d16` (R350). -/
def execLdDeD16 (nn : Word) (s : State) : Result := .next ((s.setPair .de nn).spend 3)

/-- 21: `LD HL,d16` (R350). -/
def execLdHlD16 (nn : Word) (s : State) : Result := .next ((s.setPair .hl nn).spend 3)

/-- 31: `LD SP,d16` (R350). -/
def execLdSpD16 (nn : Word) (s : State) : Result := .next ((s.setPair .sp nn).spend 3)

/-- C1: `POP BC` (R354). -/
def execPopBc (s : State) : Result := .next (popPair .bc s)

/-- C5: `PUSH BC` (R353). -/
def execPushBc (s : State) : Result := .next (pushPair .bc s)

/-- D1: `POP DE` (R354). -/
def execPopDe (s : State) : Result := .next (popPair .de s)

/-- D5: `PUSH DE` (R353). -/
def execPushDe (s : State) : Result := .next (pushPair .de s)

/-- E1: `POP HL` (R354). -/
def execPopHl (s : State) : Result := .next (popPair .hl s)

/-- E5: `PUSH HL` (R353). -/
def execPushHl (s : State) : Result := .next (pushPair .hl s)

/-- F1: `POP AF` (R356). -/
def execPopAf (s : State) : Result := .next (popPair .af s)

/-- F5: `PUSH AF` (R353). -/
def execPushAf (s : State) : Result := .next (pushPair .af s)

/-- F8: `LD HL,SP+e8` (R359). -/
def execLdHlSpE8 (e : Byte) (s : State) : Result := .next (ldHlSp e s)

/-- F9: `LD SP,HL` (R352). -/
def execLdSpHl (s : State) : Result := .next ((s.setSp (s.pair .hl)).spend 2)

end Sys2Proof.Machine
end

