-- ==== Sys2Proof/Machine/Load8.lean ====
section
/-! DEFINITION. 8-bit loads (spec/40_load8.md). Every access goes through the bus and its locks; no load
writes a flag. -/

namespace Sys2Proof.Machine

/-- `r <- r'` (R301). -/
def ldRegReg (dst r : Reg) (s : State) : State := (s.setReg dst (s.reg r)).spend 1

/-- `r <- MemRead(HL, 1)` (R303). -/
def loadHl (dst : Reg) (s : State) : State := (s.setReg dst (busRead s (s.pair .hl))).spend 2

/-- `MemWrite(HL, 1, v)` (R304, R305). -/
def storeHl (v : Byte) (cycles : Nat) (s : State) : State := (busWrite s (s.pair .hl) v).spend cycles

/-- `A <- MemRead(addr, 1)` (R306, R307, R310, R312, R314, R318, R319). -/
def loadA (addr : Word) (cycles : Nat) (s : State) : State := (s.setReg .a (busRead s addr)).spend cycles

/-- `MemWrite(addr, 1, A)` (R308, R309, R311, R313, R315, R316, R317). -/
def storeA (addr : Word) (cycles : Nat) (s : State) : State := (busWrite s addr s.cpu.a).spend cycles

/-- `HL <- HL + delta` from the HL that addressed the access (R316 to R319). -/
def stepHl (delta hl : Word) (s : State) : State := s.setPair .hl (hl + delta)

/-- 02: `LD (BC),A` (R308). -/
def execLdAtBcA (s : State) : Result := .next (storeA (s.pair .bc) 2 s)

/-- 06: `LD B,d8` (R302). -/
def execLdBD8 (n : Byte) (s : State) : Result := .next ((s.setReg .b n).spend 2)

/-- 0A: `LD A,(BC)` (R306). -/
def execLdAAtBc (s : State) : Result := .next (loadA (s.pair .bc) 2 s)

/-- 0E: `LD C,d8` (R302). -/
def execLdCD8 (n : Byte) (s : State) : Result := .next ((s.setReg .c n).spend 2)

/-- 12: `LD (DE),A` (R309). -/
def execLdAtDeA (s : State) : Result := .next (storeA (s.pair .de) 2 s)

/-- 16: `LD D,d8` (R302). -/
def execLdDD8 (n : Byte) (s : State) : Result := .next ((s.setReg .d n).spend 2)

/-- 1A: `LD A,(DE)` (R307). -/
def execLdAAtDe (s : State) : Result := .next (loadA (s.pair .de) 2 s)

/-- 1E: `LD E,d8` (R302). -/
def execLdED8 (n : Byte) (s : State) : Result := .next ((s.setReg .e n).spend 2)

/-- 22: `LD (HL+),A` (R316). -/
def execLdAtHliA (s : State) : Result := .next (stepHl 1 (s.pair .hl) (storeA (s.pair .hl) 2 s))

/-- 26: `LD H,d8` (R302). -/
def execLdHD8 (n : Byte) (s : State) : Result := .next ((s.setReg .h n).spend 2)

/-- 2A: `LD A,(HL+)` (R318). -/
def execLdAAtHli (s : State) : Result := .next (stepHl 1 (s.pair .hl) (loadA (s.pair .hl) 2 s))

/-- 2E: `LD L,d8` (R302). -/
def execLdLD8 (n : Byte) (s : State) : Result := .next ((s.setReg .l n).spend 2)

/-- 32: `LD (HL-),A` (R317). -/
def execLdAtHldA (s : State) : Result := .next (stepHl (-1) (s.pair .hl) (storeA (s.pair .hl) 2 s))

/-- 36: `LD (HL),d8` (R305). -/
def execLdAtHlD8 (n : Byte) (s : State) : Result := .next (storeHl n 3 s)

/-- 3A: `LD A,(HL-)` (R319). -/
def execLdAAtHld (s : State) : Result := .next (stepHl (-1) (s.pair .hl) (loadA (s.pair .hl) 2 s))

/-- 3E: `LD A,d8` (R302). -/
def execLdAD8 (n : Byte) (s : State) : Result := .next ((s.setReg .a n).spend 2)

/-- 40: `LD B,B` (R301). -/
def execLdBB (s : State) : Result := .next (ldRegReg .b .b s)

/-- 41: `LD B,C` (R301). -/
def execLdBC (s : State) : Result := .next (ldRegReg .b .c s)

/-- 42: `LD B,D` (R301). -/
def execLdBD (s : State) : Result := .next (ldRegReg .b .d s)

/-- 43: `LD B,E` (R301). -/
def execLdBE (s : State) : Result := .next (ldRegReg .b .e s)

/-- 44: `LD B,H` (R301). -/
def execLdBH (s : State) : Result := .next (ldRegReg .b .h s)

/-- 45: `LD B,L` (R301). -/
def execLdBL (s : State) : Result := .next (ldRegReg .b .l s)

/-- 46: `LD B,(HL)` (R303). -/
def execLdBAtHl (s : State) : Result := .next (loadHl .b s)

/-- 47: `LD B,A` (R301). -/
def execLdBA (s : State) : Result := .next (ldRegReg .b .a s)

/-- 48: `LD C,B` (R301). -/
def execLdCB (s : State) : Result := .next (ldRegReg .c .b s)

/-- 49: `LD C,C` (R301). -/
def execLdCC (s : State) : Result := .next (ldRegReg .c .c s)

/-- 4A: `LD C,D` (R301). -/
def execLdCD (s : State) : Result := .next (ldRegReg .c .d s)

/-- 4B: `LD C,E` (R301). -/
def execLdCE (s : State) : Result := .next (ldRegReg .c .e s)

/-- 4C: `LD C,H` (R301). -/
def execLdCH (s : State) : Result := .next (ldRegReg .c .h s)

/-- 4D: `LD C,L` (R301). -/
def execLdCL (s : State) : Result := .next (ldRegReg .c .l s)

/-- 4E: `LD C,(HL)` (R303). -/
def execLdCAtHl (s : State) : Result := .next (loadHl .c s)

/-- 4F: `LD C,A` (R301). -/
def execLdCA (s : State) : Result := .next (ldRegReg .c .a s)

/-- 50: `LD D,B` (R301). -/
def execLdDB (s : State) : Result := .next (ldRegReg .d .b s)

/-- 51: `LD D,C` (R301). -/
def execLdDC (s : State) : Result := .next (ldRegReg .d .c s)

/-- 52: `LD D,D` (R301). -/
def execLdDD (s : State) : Result := .next (ldRegReg .d .d s)

/-- 53: `LD D,E` (R301). -/
def execLdDE (s : State) : Result := .next (ldRegReg .d .e s)

/-- 54: `LD D,H` (R301). -/
def execLdDH (s : State) : Result := .next (ldRegReg .d .h s)

/-- 55: `LD D,L` (R301). -/
def execLdDL (s : State) : Result := .next (ldRegReg .d .l s)

/-- 56: `LD D,(HL)` (R303). -/
def execLdDAtHl (s : State) : Result := .next (loadHl .d s)

/-- 57: `LD D,A` (R301). -/
def execLdDA (s : State) : Result := .next (ldRegReg .d .a s)

/-- 58: `LD E,B` (R301). -/
def execLdEB (s : State) : Result := .next (ldRegReg .e .b s)

/-- 59: `LD E,C` (R301). -/
def execLdEC (s : State) : Result := .next (ldRegReg .e .c s)

/-- 5A: `LD E,D` (R301). -/
def execLdED (s : State) : Result := .next (ldRegReg .e .d s)

/-- 5B: `LD E,E` (R301). -/
def execLdEE (s : State) : Result := .next (ldRegReg .e .e s)

/-- 5C: `LD E,H` (R301). -/
def execLdEH (s : State) : Result := .next (ldRegReg .e .h s)

/-- 5D: `LD E,L` (R301). -/
def execLdEL (s : State) : Result := .next (ldRegReg .e .l s)

/-- 5E: `LD E,(HL)` (R303). -/
def execLdEAtHl (s : State) : Result := .next (loadHl .e s)

/-- 5F: `LD E,A` (R301). -/
def execLdEA (s : State) : Result := .next (ldRegReg .e .a s)

/-- 60: `LD H,B` (R301). -/
def execLdHB (s : State) : Result := .next (ldRegReg .h .b s)

/-- 61: `LD H,C` (R301). -/
def execLdHC (s : State) : Result := .next (ldRegReg .h .c s)

/-- 62: `LD H,D` (R301). -/
def execLdHD (s : State) : Result := .next (ldRegReg .h .d s)

/-- 63: `LD H,E` (R301). -/
def execLdHE (s : State) : Result := .next (ldRegReg .h .e s)

/-- 64: `LD H,H` (R301). -/
def execLdHH (s : State) : Result := .next (ldRegReg .h .h s)

/-- 65: `LD H,L` (R301). -/
def execLdHL (s : State) : Result := .next (ldRegReg .h .l s)

/-- 66: `LD H,(HL)` (R303). -/
def execLdHAtHl (s : State) : Result := .next (loadHl .h s)

/-- 67: `LD H,A` (R301). -/
def execLdHA (s : State) : Result := .next (ldRegReg .h .a s)

/-- 68: `LD L,B` (R301). -/
def execLdLB (s : State) : Result := .next (ldRegReg .l .b s)

/-- 69: `LD L,C` (R301). -/
def execLdLC (s : State) : Result := .next (ldRegReg .l .c s)

/-- 6A: `LD L,D` (R301). -/
def execLdLD (s : State) : Result := .next (ldRegReg .l .d s)

/-- 6B: `LD L,E` (R301). -/
def execLdLE (s : State) : Result := .next (ldRegReg .l .e s)

/-- 6C: `LD L,H` (R301). -/
def execLdLH (s : State) : Result := .next (ldRegReg .l .h s)

/-- 6D: `LD L,L` (R301). -/
def execLdLL (s : State) : Result := .next (ldRegReg .l .l s)

/-- 6E: `LD L,(HL)` (R303). -/
def execLdLAtHl (s : State) : Result := .next (loadHl .l s)

/-- 6F: `LD L,A` (R301). -/
def execLdLA (s : State) : Result := .next (ldRegReg .l .a s)

/-- 70: `LD (HL),B` (R304). -/
def execLdAtHlB (s : State) : Result := .next (storeHl (s.reg .b) 2 s)

/-- 71: `LD (HL),C` (R304). -/
def execLdAtHlC (s : State) : Result := .next (storeHl (s.reg .c) 2 s)

/-- 72: `LD (HL),D` (R304). -/
def execLdAtHlD (s : State) : Result := .next (storeHl (s.reg .d) 2 s)

/-- 73: `LD (HL),E` (R304). -/
def execLdAtHlE (s : State) : Result := .next (storeHl (s.reg .e) 2 s)

/-- 74: `LD (HL),H` (R304). -/
def execLdAtHlH (s : State) : Result := .next (storeHl (s.reg .h) 2 s)

/-- 75: `LD (HL),L` (R304). -/
def execLdAtHlL (s : State) : Result := .next (storeHl (s.reg .l) 2 s)

/-- 77: `LD (HL),A` (R304). -/
def execLdAtHlA (s : State) : Result := .next (storeHl (s.reg .a) 2 s)

/-- 78: `LD A,B` (R301). -/
def execLdAB (s : State) : Result := .next (ldRegReg .a .b s)

/-- 79: `LD A,C` (R301). -/
def execLdAC (s : State) : Result := .next (ldRegReg .a .c s)

/-- 7A: `LD A,D` (R301). -/
def execLdAD (s : State) : Result := .next (ldRegReg .a .d s)

/-- 7B: `LD A,E` (R301). -/
def execLdAE (s : State) : Result := .next (ldRegReg .a .e s)

/-- 7C: `LD A,H` (R301). -/
def execLdAH (s : State) : Result := .next (ldRegReg .a .h s)

/-- 7D: `LD A,L` (R301). -/
def execLdAL (s : State) : Result := .next (ldRegReg .a .l s)

/-- 7E: `LD A,(HL)` (R303). -/
def execLdAAtHl (s : State) : Result := .next (loadHl .a s)

/-- 7F: `LD A,A` (R301). -/
def execLdAA (s : State) : Result := .next (ldRegReg .a .a s)

/-- E0: `LDH (a8),A` (R313). -/
def execLdhAtA8A (n : Byte) (s : State) : Result := .next (storeA (highPage n) 3 s)

/-- E2: `LD (C),A` (R315). -/
def execLdAtCA (s : State) : Result := .next (storeA (highPage s.cpu.c) 2 s)

/-- EA: `LD (a16),A` (R311). -/
def execLdAtA16A (a : Word) (s : State) : Result := .next (storeA a 4 s)

/-- F0: `LDH A,(a8)` (R312). -/
def execLdhAAtA8 (n : Byte) (s : State) : Result := .next (loadA (highPage n) 3 s)

/-- F2: `LD A,(C)` (R314). -/
def execLdAAtC (s : State) : Result := .next (loadA (highPage s.cpu.c) 2 s)

/-- FA: `LD A,(a16)` (R310). -/
def execLdAAtA16 (a : Word) (s : State) : Result := .next (loadA a 4 s)

end Sys2Proof.Machine
end

