-- ==== Sys2Proof/Machine/Misc.lean ====
section
/-! DEFINITION. Miscellaneous, system and power instructions, and the undefined opcodes (spec/46_misc.md). -/

namespace Sys2Proof.Machine

/-- An operation on A and the flags, one M-cycle (R606, R607). -/
def aluOnA (r : Alu) (s : State) : State := ((s.setReg .a r.value).setFlags r.flags).spend 1

/-- STOP (R603). The instruction was fetched with its second byte; with `stop_length` = 1 that byte is
not consumed, so PC goes back to it (log 9). -/
def stopMode (s : State) : State :=
  let s' := match s.params.stopLength with
    | .two => s
    | .one => s.setPc (s.cpu.pc - 1)
  (s'.setHalt .stopped).spend 1

/-- 00: `NOP` (R600). -/
def execNop (s : State) : Result := .next (s.spend 1)

/-- 10: `STOP` (R603). -/
def execStop (_x : Byte) (s : State) : Result := .next (stopMode s)

/-- 27: `DAA` (R606). -/
def execDaa (s : State) : Result := .next (aluOnA (daaResult s.cpu.f s.cpu.a) s)

/-- 2F: `CPL` (R607). -/
def execCpl (s : State) : Result := .next (aluOnA (cplResult s.cpu.f s.cpu.a) s)

/-- 37: `SCF` (R608). -/
def execScf (s : State) : Result := .next ((s.setFlags (scfFlags s.cpu.f)).spend 1)

/-- 3F: `CCF` (R609). -/
def execCcf (s : State) : Result := .next ((s.setFlags (ccfFlags s.cpu.f)).spend 1)

/-- 76: `HALT` (R602). -/
def execHalt (s : State) : Result := .next ((s.setHalt .halted).spend 1)

/-- D3: `UNDEFINED` (R611). -/
def execUndefinedD3 (s : State) : Result := .next (raiseFatal s 0xD3)

/-- DB: `UNDEFINED` (R611). -/
def execUndefinedDB (s : State) : Result := .next (raiseFatal s 0xDB)

/-- DD: `UNDEFINED` (R611). -/
def execUndefinedDD (s : State) : Result := .next (raiseFatal s 0xDD)

/-- E3: `UNDEFINED` (R611). -/
def execUndefinedE3 (s : State) : Result := .next (raiseFatal s 0xE3)

/-- E4: `UNDEFINED` (R611). -/
def execUndefinedE4 (s : State) : Result := .next (raiseFatal s 0xE4)

/-- EB: `UNDEFINED` (R611). -/
def execUndefinedEB (s : State) : Result := .next (raiseFatal s 0xEB)

/-- EC: `UNDEFINED` (R611). -/
def execUndefinedEC (s : State) : Result := .next (raiseFatal s 0xEC)

/-- ED: `UNDEFINED` (R611). -/
def execUndefinedED (s : State) : Result := .next (raiseFatal s 0xED)

/-- F3: `DI` (R604). -/
def execDi (s : State) : Result := .next (((s.setIme false).setImePending false).spend 1)

/-- F4: `UNDEFINED` (R611). -/
def execUndefinedF4 (s : State) : Result := .next (raiseFatal s 0xF4)

/-- FB: `EI` (R605). -/
def execEi (s : State) : Result := .next ((s.setImePending true).spend 1)

/-- FC: `UNDEFINED` (R611). -/
def execUndefinedFC (s : State) : Result := .next (raiseFatal s 0xFC)

/-- FD: `UNDEFINED` (R611). -/
def execUndefinedFD (s : State) : Result := .next (raiseFatal s 0xFD)

end Sys2Proof.Machine
end

