-- ==== Sys2Proof/Machine/Driver.lean ====
section
/-! DEFINITION. The driver (spec/60_exceptions.md R700, R740 to R746, R800 to R809): fetching, the device ticks,
the EI latch, the interrupt evaluation, the save flush, and what the host may do between steps. -/

namespace Sys2Proof.Machine

/-! ### Ticks (R802) -/

/-- One M-cycle: four timer T-cycles, one DMA byte, four PPU dots, four APU T-cycles, in that order. -/
def mCycle (s : State) : State :=
  apuM (ppuDot (ppuDot (ppuDot (ppuDot (dmaM (timerT (timerT (timerT (timerT s)))))))))

/-- `Tick(n)`. -/
def tick (n : Nat) (s : State) : State :=
  match n with
  | 0 => s
  | k + 1 => tick k (mCycle s)

/-! ### EI latch and interrupt evaluation (R742, R740, R741, R746) -/

/-- R742, with `was` the latch at the start of the step. -/
def imeLatch (was : Bool) (s : State) : State :=
  if was && s.cpu.imePending then (s.setIme true).setImePending false else s

/-- `pend = IE & IF & 0x1F` (R721, D14). -/
def pending (s : State) : BitVec 5 := BitVec.ofNat 5 s.intr.ie.toNat &&& s.intr.iflag

/-- The lowest set bit of `pend` (R741). -/
def lowestPending (p : BitVec 5) : Nat :=
  if p.getLsbD 0 then 0
  else if p.getLsbD 1 then 1
  else if p.getLsbD 2 then 2
  else if p.getLsbD 3 then 3
  else 4

/-- `EvaluateInterrupts()` of R740: the state after it and the M-cycles it cost. -/
def evaluateInterrupts (s : State) : State × Nat :=
  if pending s = 0 then (s, 0)
  else if s.cpu.ime then (tick 5 (takeInterrupt (s.setHalt .running) (lowestPending (pending s))), 5)
  else (s.setHalt .running, 0)

/-! ### Save flush (R806, R190) -/

/-- Cartridge RAM as the save sink receives it: for MBC2 each byte is `0xF0 | nibble`. -/
def Cart.saveImage (c : Cart) : Memory :=
  if c.mbc.nibbles then (List.range c.ramSize).map fun i => (i, c.ramByte i) else c.ram

/-- `save(cartridge RAM)` and `ram_dirty <- false`, if the RAM is dirty. -/
def flushSave (s : State) : State :=
  if s.cart.dirty then
    { s with
      cart := { s.cart with dirty := false }
      host := { s.host with saves := s.host.saves + 1, lastSave := some s.cart.saveImage } }
  else s

/-- Whether `save_flush_policy` flushes in this step; `frames` is the frame count at its start (D52;
the other settings: log 30). Steps are told apart by their master cycle count (R108). -/
def flushesNow (p : SaveFlush) (frames : Nat) (s : State) : Bool :=
  match p with
  | .onFrame => decide (s.host.framesDone ≠ frames)
  | .everyStep => true
  | .onlyAtTeardown => false
  | .free => Config.flushFree s.masterCycles s.host.framesDone s.host.saves

/-- `SaveFlush()` of R806. -/
def saveFlush (frames : Nat) (s : State) : State :=
  if flushesNow s.params.saveFlush frames s then flushSave s else s

/-! ### Fetch (R14, R230, R245) -/

/-- The bytes at PC, PC + 1 and PC + 2, through the bus. Reads have no side effect (R147), so the bytes an
instruction does not have may be looked at too (log 12). -/
def fetchWindow (s : State) : Byte × Byte × Byte :=
  (busRead s s.cpu.pc, busRead s (s.cpu.pc + 1), busRead s (s.cpu.pc + 2))

/-- The instruction at PC. -/
def fetched (s : State) : Instr :=
  let w := fetchWindow s
  decode3 w.1 w.2.1 w.2.2

/-- PC past an instruction (R55). -/
def pastInstr (i : Instr) (s : State) : State := s.setPc (s.cpu.pc + BitVec.ofNat 16 i.length)

/-- `Execute(Fetch8())` (R800 step 3): decode at PC, move PC past the instruction, run it. -/
def execute (s : State) : Result := exec (fetched s) (pastInstr (fetched s) s)

/-! ### The step (R800) -/

/-- Step 3: the instruction, or one idle M-cycle while halted or stopped (R745). -/
def runCpu (s : State) : Result :=
  match s.cpu.halt with
  | .running => execute s
  | .halted => .next (s.spend 1)
  | .stopped => .next (s.spend 1)

/-- Step 7: `master_cycles <- master_cycles + n + d` (R108). -/
def countCycles (n d : Nat) (s : State) : State :=
  { s with masterCycles := s.masterCycles + n + d, opCycles := 0 }

/-- Steps 4 to 8, after the CPU's part. `was` is the EI latch and `frames` the frame count at the start. -/
def finishStep (was : Bool) (frames : Nat) (s : State) : State :=
  let e := evaluateInterrupts (tick s.opCycles (imeLatch was s))
  saveFlush frames (countCycles s.opCycles e.2 e.1)

/-- What follows the CPU's part: a raised Fatal ends the step there (R700, R800). -/
def afterCpu (was : Bool) (frames : Nat) (r : Result) : Result :=
  match r with
  | .next s => if s.cpu.fatal.isSome then .next s else .next (finishStep was frames s)
  | .fault f => .fault f
  | .refused f => .refused f

/-- The whole of `Step()`, where it is enabled. -/
def runStep (s : State) : Result :=
  let s1 := pollJoypad s
  afterCpu s1.cpu.imePending s1.host.framesDone (runCpu s1)

/-- `Step()`; in the fatal state no step is enabled (R700, log 8). -/
def enabledStep (s : State) : Result :=
  match s.cpu.fatal with
  | some (opcode, addr) => .fault (.fatal opcode addr)
  | none => runStep s

/-! ### The host, between steps (R806, R809) -/

/-- The host queues a joypad event. -/
def hostEvent (s : State) (ev : JoyEvent) : State :=
  { s with host := { s.host with events := s.host.events ++ [ev] } }

/-- The host tears the machine down: dirty RAM is flushed once more (R806, D52). -/
def teardown (s : State) : State := flushSave s

/-! ### Placing an instruction for the next fetch -/

/-- Put a byte into the storage that a fetch from `addr` reads, where that is plain storage. -/
def pokeByte (s : State) (addr : Word) (v : Byte) : State :=
  let a := addr.toNat
  if a < 0x8000 then
    match s.boot.rom with
    | some image =>
      if s.boot.mapped && decide (a < 0x100) then { s with boot := { s.boot with rom := some (image.write a v) } }
      else { s with cart := { s.cart with rom := { s.cart.rom with bytes := s.cart.rom.bytes.write (s.cart.romIndex a) v } } }
    | none => { s with cart := { s.cart with rom := { s.cart.rom with bytes := s.cart.rom.bytes.write (s.cart.romIndex a) v } } }
  else if a < 0xA000 then { s with vram := s.vram.write (a - 0x8000) v }
  else if a < 0xC000 then s
  else if a < 0xE000 then { s with wram := s.wram.write (a - 0xC000) v }
  else if a < 0xFE00 then { s with wram := s.wram.write (a - 0xE000) v }
  else if a < 0xFEA0 then { s with oam := s.oam.write (a - 0xFE00) v }
  else if 0xFF80 ≤ a ∧ a < 0xFFFF then { s with hram := s.hram.write (a - 0xFF80) v }
  else s

/-- Put three bytes at PC, PC + 1 and PC + 2. -/
def pokeWindow (s : State) (w : Byte × Byte × Byte) : State :=
  pokeByte (pokeByte (pokeByte s s.cpu.pc w.1) (s.cpu.pc + 1) w.2.1) (s.cpu.pc + 2) w.2.2

/-- A state whose next step fetches and runs the instruction whose bytes are `w`: placed at PC, or, where a
fetch at PC would not read them back (registers, a lock, an absent RAM), at 0xC000 with PC moved
there (log 27). The CPU is made to run. -/
def placeInstr (s : State) (w : Byte × Byte × Byte) : State :=
  let s0 := { s with cpu := { s.cpu with halt := .running, fatal := none } }
  if fetchWindow (pokeWindow s0 w) = w then pokeWindow s0 w
  else pokeWindow { s0 with cpu := { s0.cpu with pc := 0xC000 }, dma := { s0.dma with active := false } } w

end Sys2Proof.Machine
end

