-- ==== Sys2Proof/Machine/Step.lean ====
section
/-! DEFINITION. One step of the machine (spec/60_exceptions.md R800), and placing the next instruction. -/

namespace Sys2Proof.Machine

/-- One step (R800). -/
def step (s : State) : Host.Outcome State Fault Refusal := enabledStep s

/-- `s` with the instruction whose bits are `w` (numbered as spec/opcode_table.json numbers them) where the
next step fetches it (log 27). -/
def State.withFetchWord (s : State) (nbits w : Nat) : State := placeInstr s (tableBytes nbits w)

end Sys2Proof.Machine
end

