-- ==== Sys2Proof/Machine/Construct.lean ====
section
/-! DEFINITION. Construction of a machine from a configuration (spec/60_exceptions.md R702, R703, R807; spec/20_memory.md
R170 to R172, R190; spec/70_reset_and_hazards.md R900, R901; spec/10_state.md R72). -/

namespace Sys2Proof.Machine

/-- The values the spec leaves to a draw at construction (`unspecified_ram_contents`, D26). From `a` on: the
CPU registers, IE, IF and the timer counter, drawn at a boot ROM start only (R901). A frame that is not 144 rows
of 160 is taken as it is (DESIGN CHOICE, log 32). -/
structure Draws where
  vram : Memory
  wram : Memory
  oam : Memory
  hram : Memory
  wave : Memory
  frame : Frame
  obp0 : Byte
  obp1 : Byte
  a : Byte
  f : Flags
  b : Byte
  c : Byte
  d : Byte
  e : Byte
  h : Byte
  l : Byte
  sp : Word
  ie : Byte
  iflag : BitVec 5
  counter : Word
deriving DecidableEq, Repr

/-- What a machine is built from (R9, R807): the images, the save sink's `load()` result, the parameters a
running machine reads, and the reset parameters. `postboot` lists (register low byte, read value). -/
structure Setup where
  rom : Buffer
  bootrom : Option Buffer
  saveData : Option Buffer
  params : Params
  postboot : List (Nat × Byte)
  divInitLow : Byte
  ppuInitLy : Byte
  ppuInitDot : Nat
  draws : Draws
deriving DecidableEq, Repr

/-- Cells in canonical form, those beyond `size` left out. -/
def Memory.ofCells (size : Nat) (cells : List Host.Cell) : Memory :=
  cells.foldl (fun m c => if c.1 < size then m.write c.1 c.2 else m) []

/-! ### The header (R170 to R172) -/

/-- The MBC registers at reset (R105). -/
def Mbc1.reset : Mbc1 := { ramEnable := false, bank1 := 1, bank2 := 0, mode := false }
def Mbc2.reset : Mbc2 := { ramEnable := false, romBank := 1 }
def Mbc5.reset : Mbc5 := { ramEnable := false, romBank := 1, ramBank := 0 }

/-- Header byte 0x0147 (R171): the MBC, whether there is RAM, whether there is a battery. Any other code is
unsupported. -/
def cartType (code : Nat) : Option (Mbc × Bool × Bool) :=
  match code with
  | 0x00 => some (.none, false, false)
  | 0x01 => some (.mbc1 Mbc1.reset, false, false)
  | 0x02 => some (.mbc1 Mbc1.reset, true, false)
  | 0x03 => some (.mbc1 Mbc1.reset, true, true)
  | 0x05 => some (.mbc2 Mbc2.reset, true, false)
  | 0x06 => some (.mbc2 Mbc2.reset, true, true)
  | 0x19 => some (.mbc5 Mbc5.reset, false, false)
  | 0x1A => some (.mbc5 Mbc5.reset, true, false)
  | 0x1B => some (.mbc5 Mbc5.reset, true, true)
  | 0x1C => some (.mbc5 Mbc5.reset, false, false)
  | 0x1D => some (.mbc5 Mbc5.reset, true, false)
  | 0x1E => some (.mbc5 Mbc5.reset, true, true)
  | _ => none

/-- Header byte 0x0148 (R172): the number of 16 KiB ROM banks. -/
def romBankCount (code : Nat) : Option Nat := if code ≤ 8 then some (2 * 2 ^ code) else none

/-- Header byte 0x0149 (R172): the RAM size in bytes. -/
def ramSizeOf (code : Nat) : Option Nat :=
  match code with
  | 0x00 => some 0
  | 0x01 => some 2048
  | 0x02 => some 8192
  | 0x03 => some 32768
  | 0x04 => some 131072
  | 0x05 => some 65536
  | _ => none

/-- The RAM a cartridge has: MBC2's 512 cells, none where the type has no RAM, else the header's size
(R172). A type with RAM and a header size of 0 has none. -/
def declaredRam (mbc : Mbc) (hasRam : Bool) (size : Nat) : Nat :=
  if mbc.nibbles then 512 else if hasRam then size else 0

/-- The cartridge RAM at construction: the save buffer if its size matches, else zero (R190, R703). MBC2 keeps
the low nibbles (log 25). -/
def loadedRam (nibbles : Bool) (size : Nat) (save : Option Buffer) : Memory :=
  match save with
  | some buf =>
    if buf.size = size then
      Memory.ofCells size (if nibbles then buf.bytes.map fun c => (c.1, c.2 &&& 0x0F) else buf.bytes)
    else []
  | none => []

/-- The cartridge an image and a save buffer give, or none where the header is not supported or declares
more than the image holds (R702). -/
def decodeCart (rom : Buffer) (save : Option Buffer) : Option Cart := do
  let bytes := Memory.ofCells rom.size rom.bytes
  let (mbc, hasRam, battery) ← cartType (bytes.read 0x147).toNat
  let banks ← romBankCount (bytes.read 0x148).toNat
  let size ← ramSizeOf (bytes.read 0x149).toNat
  if rom.size < banks * 0x4000 then none
  else
    let ram := declaredRam mbc hasRam size
    some
      { rom := { size := rom.size, bytes := bytes }
        hasRam := decide (ram ≠ 0)
        battery := battery
        romBanks := banks
        ramSize := ram
        mbc := mbc
        ram := loadedRam mbc.nibbles ram save
        dirty := false }

/-- Whether a title byte is trimmed: NUL or space (log 24). -/
def titleBlank (b : Byte) : Bool := decide (b = 0x00) || decide (b = 0x20)

/-- The title given to the save sink: header bytes 0x0134–0x0143, "ASCII trimmed" (R170, R807, log 24). -/
def titleOf (bytes : Memory) : List Byte :=
  let raw := (List.range 16).map fun i => bytes.read (0x134 + i)
  ((raw.dropWhile titleBlank).reverse.dropWhile titleBlank).reverse

/-! ### Reset state -/

/-- The post-boot I/O table of R72, the default of `postboot_io` (D27): register low byte and read value.
LY and STAT's low bits follow `ppu_init`; OBP0, OBP1 and wave RAM are draws. -/
def defaultPostboot : List (Nat × Byte) :=
  [(0x00, 0xCF), (0x01, 0x00), (0x02, 0x7E), (0x04, 0xAB), (0x05, 0x00), (0x06, 0x00), (0x07, 0xF8), (0x0F, 0xE1)] ++
  [(0x10, 0x80), (0x11, 0xBF), (0x12, 0xF3), (0x13, 0xFF), (0x14, 0xBF)] ++
  [(0x16, 0x3F), (0x17, 0x00), (0x18, 0xFF), (0x19, 0xBF)] ++
  [(0x1A, 0x7F), (0x1B, 0xFF), (0x1C, 0x9F), (0x1D, 0xFF), (0x1E, 0xBF)] ++
  [(0x20, 0xFF), (0x21, 0x00), (0x22, 0x00), (0x23, 0xBF), (0x24, 0x77), (0x25, 0xF3), (0x26, 0xF1)] ++
  [(0x40, 0x91), (0x41, 0x86), (0x42, 0x00), (0x43, 0x00), (0x44, 0x00), (0x45, 0x00), (0x46, 0xFF), (0x47, 0xFC)] ++
  [(0x4A, 0x00), (0x4B, 0x00), (0x50, 0xFF), (0xFF, 0x00)]

/-- The stored bits that give an APU register its read value, bits under the read mask 0 (R86, log 7). Bits 3..0
of an NR52 value are installed as the channels' on-states, whatever its bit 7 and the channels' DACs are
(DESIGN CHOICE, log 34). -/
def Apu.install (a : Apu) (r : Nat) (v : Byte) : Apu :=
  match r with
  | 0x10 => { a with sweep := { a.sweep with nr10 := v &&& ~~~0x80 } }
  | 0x11 => { a with ch1 := { a.ch1 with nr1 := v &&& ~~~0x3F } }
  | 0x12 => { a with ch1 := { a.ch1 with nr2 := v } }
  | 0x13 => { a with ch1 := { a.ch1 with nr3 := v &&& ~~~0xFF } }
  | 0x14 => { a with ch1 := { a.ch1 with nr4 := v &&& ~~~0xBF } }
  | 0x16 => { a with ch2 := { a.ch2 with nr1 := v &&& ~~~0x3F } }
  | 0x17 => { a with ch2 := { a.ch2 with nr2 := v } }
  | 0x18 => { a with ch2 := { a.ch2 with nr3 := v &&& ~~~0xFF } }
  | 0x19 => { a with ch2 := { a.ch2 with nr4 := v &&& ~~~0xBF } }
  | 0x1A => { a with ch3 := { a.ch3 with nr30 := v &&& ~~~0x7F } }
  | 0x1B => { a with ch3 := { a.ch3 with nr31 := v &&& ~~~0xFF } }
  | 0x1C => { a with ch3 := { a.ch3 with nr32 := v &&& ~~~0x9F } }
  | 0x1D => { a with ch3 := { a.ch3 with nr33 := v &&& ~~~0xFF } }
  | 0x1E => { a with ch3 := { a.ch3 with nr34 := v &&& ~~~0xBF } }
  | 0x20 => { a with ch4 := { a.ch4 with nr41 := v &&& ~~~0xFF } }
  | 0x21 => { a with ch4 := { a.ch4 with nr42 := v } }
  | 0x22 => { a with ch4 := { a.ch4 with nr43 := v } }
  | 0x23 => { a with ch4 := { a.ch4 with nr44 := v &&& ~~~0xBF } }
  | 0x24 => { a with nr50 := v }
  | 0x25 => { a with nr51 := v }
  | 0x26 =>
    { a with
      power := v.getLsbD 7
      ch1 := { a.ch1 with on := v.getLsbD 0 }
      ch2 := { a.ch2 with on := v.getLsbD 1 }
      ch3 := { a.ch3 with on := v.getLsbD 2 }
      ch4 := { a.ch4 with on := v.getLsbD 3 } }
  | _ => if 0x30 ≤ r ∧ r ≤ 0x3F then { a with ch3 := { a.ch3 with ram := a.ch3.ram.write (r - 0x30) v } } else a

/-- Install one post-boot read value (R72). 0xFF is IE at 0xFFFF; LY, BOOT and unused addresses store
nothing. The spec gives the list no domain: none is refused or adjusted (DESIGN CHOICE, log 34). -/
def installIo (s : State) (entry : Nat × Byte) : State :=
  let v := entry.2
  match entry.1 with
  | 0x00 => { s with joypad := s.joypad.writeP1 v }
  | 0x01 => { s with serial := { s.serial with sb := v } }
  | 0x02 => { s with serial := { s.serial with sc := v &&& 0x81 } }
  | 0x04 => { s with timer := { s.timer with counter := mkWord v (loByte s.timer.counter) } }
  | 0x05 => { s with timer := { s.timer with tima := v } }
  | 0x06 => { s with timer := { s.timer with tma := v } }
  | 0x07 => { s with timer := { s.timer with tac := BitVec.ofNat 3 v.toNat } }
  | 0x0F => { s with intr := { s.intr with iflag := BitVec.ofNat 5 v.toNat } }
  | 0x40 => { s with ppu := { s.ppu with lcdc := v } }
  | 0x41 => { s with ppu := s.ppu.writeStat v }
  | 0x42 => { s with ppu := { s.ppu with scy := v } }
  | 0x43 => { s with ppu := { s.ppu with scx := v } }
  | 0x45 => { s with ppu := { s.ppu with lyc := v } }
  | 0x46 => { s with dma := { s.dma with reg := v, source := v } }
  | 0x47 => { s with ppu := { s.ppu with bgp := v } }
  | 0x48 => { s with ppu := { s.ppu with obp0 := v } }
  | 0x49 => { s with ppu := { s.ppu with obp1 := v } }
  | 0x4A => { s with ppu := { s.ppu with wy := v } }
  | 0x4B => { s with ppu := { s.ppu with wx := v } }
  | 0xFF => { s with intr := { s.intr with ie := v } }
  | r => if 0x10 ≤ r ∧ r ≤ 0x3F then { s with apu := s.apu.install r v } else s

/-- The PPU at (LY, dot): the mode of R780, the line's sprite list and mode 3 length where mode 3 has been
entered, and each STAT source's previous level its level there (D29, R900). With the LCD off it
stands at LY 0, dot 0, mode 0 (R785). The spec does not say what a position outside LY 0..153 and dot 0..455 gives:
here it is taken as it is (DESIGN CHOICE, log 32). -/
def placePpu (s : State) (ly : Byte) (dot : Nat) : State :=
  if s.ppu.lcdOn then
    let drawn := decide (ly.toNat < 144) && decide (80 ≤ dot)
    let p := { s.ppu with ly := ly, dot := dot }
    let p := { p with sprites := if drawn then oamScan s.oam ly.toNat p.objHeight else [] }
    let len := if drawn then mode3Length s.params.mode3Len p else 172
    { s with ppu := Ppu.latchLevels { p with mode3Len := len, mode := modeOf ly dot len } }
  else { s with ppu := Ppu.latchLevels { s.ppu with ly := 0, dot := 0, mode := .hblank } }

/-- The channels' internals after boot skip: a channel that is on, as a trigger with its registers leaves it;
one that is off, at rest (log 7). -/
def Square.settle (c : Square) : Square :=
  { c with
    len := if c.on then 64 else 0
    volume := if c.on then c.nr2.toNat / 16 else 0
    envTimer := if c.on then ((c.nr2.toNat % 8 : Nat) : Int) else 0
    freqTimer := c.period
    dutyPos := 0 }

/-- Log 7. -/
def WaveChannel.settle (c : WaveChannel) : WaveChannel :=
  { c with len := if c.on then 256 else 0, freqTimer := c.period, pos := 0 }

/-- Log 7. -/
def NoiseChannel.settle (c : NoiseChannel) : NoiseChannel :=
  { c with
    len := if c.on then 64 else 0
    volume := if c.on then c.nr42.toNat / 16 else 0
    envTimer := if c.on then ((c.nr42.toNat % 8 : Nat) : Int) else 0
    freqTimer := c.period
    lfsr := if c.on then 0x7FFF else 0 }

/-- The APU's internals at reset, `bit12` being bit 12 of the timer counter (R103, R900, log 7). -/
def Apu.settle (a : Apu) (bit12 : Bool) : Apu :=
  { a with
    ch1 := a.ch1.settle
    sweep := { a.sweep with
      shadow := if a.ch1.on then periodBits a.ch1.nr3 a.ch1.nr4 else 0
      timer := sweepReload a.sweep.nr10
      enabled := a.ch1.on && (decide (sweepPace a.sweep.nr10 ≠ 0) || decide (a.sweep.nr10.toNat % 8 ≠ 0)) }
    ch2 := a.ch2.settle
    ch3 := a.ch3.settle
    ch4 := a.ch4.settle
    fsStep := 0
    fsPrev := bit12 }

/-- An APU whose registers all store 0, every channel off (R103, R901). What a boot ROM start leaves in the
channels' internals the spec does not say: lengths, volumes, the envelope, frequency and sweep timers, the
positions, the LFSR, the sweep shadow and `sweep_on` are 0 here (DESIGN CHOICE, log 31). Boot skip overwrites
them (`Apu.settle`, log 7). -/
def Apu.zero : Apu where
  ch1 := { nr1 := 0, nr2 := 0, nr3 := 0, nr4 := 0, on := false, len := 0, volume := 0, envTimer := 0,
           freqTimer := 0, dutyPos := 0 }
  sweep := { nr10 := 0, shadow := 0, timer := 0, enabled := false }
  ch2 := { nr1 := 0, nr2 := 0, nr3 := 0, nr4 := 0, on := false, len := 0, volume := 0, envTimer := 0,
           freqTimer := 0, dutyPos := 0 }
  ch3 := { nr30 := 0, nr31 := 0, nr32 := 0, nr33 := 0, nr34 := 0, on := false, len := 0, freqTimer := 0,
           pos := 0, ram := [] }
  ch4 := { nr41 := 0, nr42 := 0, nr43 := 0, nr44 := 0, on := false, len := 0, volume := 0, envTimer := 0,
           freqTimer := 0, lfsr := 0 }
  nr50 := 0
  nr51 := 0
  power := false
  fsStep := 0
  fsPrev := false

/-- A PPU whose registers all store 0: the LCD is off (R901). The sprite list, the mode 3 length and the window
state, which R901 does not give, are as logs 18, 20 and 31 say. -/
def Ppu.zero : Ppu where
  lcdc := 0
  statSel := 0
  scy := 0
  scx := 0
  ly := 0
  lyc := 0
  bgp := 0
  obp0 := 0
  obp1 := 0
  wy := 0
  wx := 0
  mode := .hblank
  dot := 0
  mode3Len := 172
  sprites := []
  windowLine := 0
  wyLatch := false
  windowDrawn := false
  prevLyc := false
  prevM2 := false
  prevM1 := false
  prevM0 := false
  frame := []

/-- The drawn memories and registers of both resets (R900, R901). Cells beyond a memory's size are left out, and a
frame that is not 144 rows of 160 is taken as it is (DESIGN CHOICE, log 32). -/
def installDraws (s : State) (d : Draws) : State :=
  { s with
    vram := Memory.ofCells 8192 d.vram
    wram := Memory.ofCells 8192 d.wram
    oam := Memory.ofCells 160 d.oam
    hram := Memory.ofCells 127 d.hram
    apu := { s.apu with ch3 := { s.apu.ch3 with ram := Memory.ofCells 16 d.wave } }
    ppu := { s.ppu with frame := d.frame, obp0 := d.obp0, obp1 := d.obp1 } }

/-- What both resets share: every stored I/O bit 0, the joypad, the DMA register, the MBC and the counters of
R900, the drawn memories. -/
def blankState (setup : Setup) (cart : Cart) : State :=
  installDraws
    { cpu := Cpu.reset
      intr := { ie := 0, iflag := 0 }
      timer := { counter := 0, tima := 0, tma := 0, tac := 0, reloadCountdown := 0 }
      dma := { reg := 0xFF, active := false, source := 0xFF, index := 0 }
      ppu := Ppu.zero
      apu := Apu.zero
      joypad := Joypad.reset
      serial := { sb := 0, sc := 0 }
      cart := cart
      boot := { rom := none, mapped := false }
      vram := []
      wram := []
      oam := []
      hram := []
      masterCycles := 0
      opCycles := 0
      host := { HostPort.reset with title := titleOf cart.rom.bytes }
      params := setup.params }
    setup.draws

/-- Boot skip (R900). -/
def bootSkip (setup : Setup) (cart : Cart) : State :=
  let s0 := blankState setup cart
  let s1 := setup.postboot.foldl installIo s0
  let s2 := { s1 with timer := { s1.timer with counter := mkWord (hiByte s1.timer.counter) setup.divInitLow } }
  let s3 := { s2 with apu := s2.apu.settle (s2.timer.counter.getLsbD 12) }
  placePpu s3 setup.ppuInitLy setup.ppuInitDot

/-- Boot ROM start (R901). -/
def bootRomStart (setup : Setup) (cart : Cart) (image : Memory) : State :=
  let d := setup.draws
  let s := blankState setup cart
  { s with
    cpu :=
      { a := d.a, f := d.f, b := d.b, c := d.c, d := d.d, e := d.e, h := d.h, l := d.l, sp := d.sp, pc := 0x0000
        ime := false, imePending := false, halt := .running, fatal := none }
    intr := { ie := d.ie, iflag := d.iflag }
    timer := { s.timer with counter := d.counter }
    apu := { s.apu with fsPrev := d.counter.getLsbD 12 }
    boot := { rom := some (Memory.ofCells 256 image), mapped := true } }

/-- R807: the header, then the boot ROM's length, then the reset state. -/
def construct (setup : Setup) : Result :=
  match decodeCart setup.rom setup.saveData with
  | none => .refused .invalidRom
  | some cart =>
    match setup.bootrom with
    | none => .next (bootSkip setup cart)
    | some boot =>
      if boot.size = 256 then .next (bootRomStart setup cart boot.bytes) else .refused .bootromSize

/-- Every draw at the value `State.reset` names for it (log 3, 4). -/
def Draws.zero : Draws where
  vram := []
  wram := []
  oam := []
  hram := []
  wave := []
  frame := Frame.reset
  obp0 := 0
  obp1 := 0
  a := 0
  f := { z := false, n := false, h := false, c := false }
  b := 0
  c := 0
  d := 0
  e := 0
  h := 0
  l := 0
  sp := 0
  ie := 0
  iflag := 0
  counter := 0

/-- A setup with every parameter at its default, no boot ROM, no save data (log 1, 5, 6). -/
def Setup.default (rom : Buffer) : Setup where
  rom := rom
  bootrom := none
  saveData := none
  params := Params.default
  postboot := defaultPostboot
  divInitLow := 0x00
  ppuInitLy := 0x00
  ppuInitDot := 0
  draws := Draws.zero

end Sys2Proof.Machine
end

