-- ==== Sys2Proof/Safety.lean ====
section
/-! DEFINITION. What a safe run is, when a run has ended (spec/60_exceptions.md R700, R808), and the forms a state of the
machine always has, in the terms statements use. -/

namespace Sys2Proof.Machine

/-! ### Runs -/

/-- No exception has been raised (R59, R700). -/
abbrev State.Live (s : State) : Prop := s.cpu.fatal = none

/-- The end of run of R808 (D46): the CPU is halted or stopped, nothing is or can be requested, no DMA is
active; a fatal state is never an end. -/
abbrev State.EndOfRun (s : State) : Prop :=
  s.Live ∧ s.cpu.halt ≠ .running ∧ pending s = 0 ∧ s.intr.ie.toNat % 32 = 0 ∧ s.dma.active = false

/-- A step answers a next state, and no exception is raised in it. -/
abbrev State.SafeStep (s : State) : Prop :=
  match step s with
  | .next t => t.Live
  | .fault _ => False
  | .refused _ => False

/-! ### Footprints -/

/-- The addresses the instruction stores a byte to, in order (R133): the expressions its meaning stores at. -/
def storedAt (i : Instr) (s : State) : List Word :=
  match i with
  | .ldAtBcA => [s.pair .bc]
  | .ldAtA16Sp a => [a, a + 1]
  | .ldAtDeA => [s.pair .de]
  | .ldAtHliA | .ldAtHldA | .incAtHl | .decAtHl | .ldAtHlD8 _ | .ldAtHlB | .ldAtHlC | .ldAtHlD | .ldAtHlE |
    .ldAtHlH | .ldAtHlL | .ldAtHlA | .rlcAtHl | .rrcAtHl | .rlAtHl | .rrAtHl | .slaAtHl | .sraAtHl | .swapAtHl |
    .srlAtHl | .res0AtHl | .res1AtHl | .res2AtHl | .res3AtHl | .res4AtHl | .res5AtHl | .res6AtHl | .res7AtHl |
    .set0AtHl | .set1AtHl | .set2AtHl | .set3AtHl | .set4AtHl | .set5AtHl | .set6AtHl | .set7AtHl => [s.pair .hl]
  | .callNzA16 _ => if condHolds s.cpu.f .nz then [s.cpu.sp - 1, s.cpu.sp - 2] else []
  | .pushBc | .rst00 | .callA16 _ | .rst08 | .pushDe | .rst10 | .rst18 | .pushHl | .rst20 | .rst28 | .pushAf |
    .rst30 | .rst38 => [s.cpu.sp - 1, s.cpu.sp - 2]
  | .callZA16 _ => if condHolds s.cpu.f .z then [s.cpu.sp - 1, s.cpu.sp - 2] else []
  | .callNcA16 _ => if condHolds s.cpu.f .nc then [s.cpu.sp - 1, s.cpu.sp - 2] else []
  | .callCA16 _ => if condHolds s.cpu.f .c then [s.cpu.sp - 1, s.cpu.sp - 2] else []
  | .ldhAtA8A n => [highPage n]
  | .ldAtCA => [highPage s.cpu.c]
  | .ldAtA16A a => [a]
  | .prefixCb o => if o.toNat % 8 = 6 ∧ ¬(0x40 ≤ o.toNat ∧ o.toNat < 0x80) then [s.pair .hl] else []
  | _ => []

/-- VRAM, WRAM and its echo, OAM, HRAM and IE: addresses that read back what is stored there. -/
def plainAddress (b : Word) : Prop :=
  (0x8000 ≤ b.toNat ∧ b.toNat < 0xA000) ∨ (0xC000 ≤ b.toNat ∧ b.toNat < 0xFEA0) ∨ 0xFF80 ≤ b.toNat

/-- The cell an address names: an echo address names a WRAM cell (R141). -/
def cellOf (b : Word) : Nat := if 0xE000 ≤ b.toNat ∧ b.toNat < 0xFE00 then b.toNat - 0x2000 else b.toNat

/-! ### Forms -/

/-- A memory array in canonical form within its size (R99). -/
abbrev Memory.Form (size : Nat) (m : Memory) : Prop := m.wf = true ∧ m.within size = true

/-- MBC1's bank1 and MBC2's rom_bank are never 0 (R176, R180). -/
def Mbc.legal (m : Mbc) : Bool :=
  match m with
  | .none => true
  | .mbc1 r => decide (r.bank1 ≠ 0)
  | .mbc2 r => decide (r.romBank ≠ 0)
  | .mbc5 _ => true

/-- The cartridge: its arrays in canonical form within their sizes, at least one ROM bank and all of them in the
image, RAM where it has RAM, MBC2's 512 nibbles (R172, R182). -/
abbrev Cart.Form (c : Cart) : Prop :=
  Memory.Form c.rom.size c.rom.bytes ∧ Memory.Form c.ramSize c.ram ∧ 0 < c.romBanks ∧
    c.romBanks * 0x4000 ≤ c.rom.size ∧ 0x8000 ≤ c.rom.size ∧ (c.hasRam = true → 0 < c.ramSize) ∧
    (c.mbc.nibbles = true → c.ramSize = 512 ∧ (c.ram.all fun x => decide (x.2.toNat < 16)) = true) ∧ c.mbc.legal = true

/-- A DMA index is an OAM offset while a DMA is active (R101). -/
abbrev Dma.Form (d : Dma) : Prop := d.index ≤ 160 ∧ (d.active = true → d.index < 160)

/-- Every memory array of the machine has its form; the DMA's index too, since it is where the DMA writes. -/
abbrev State.MemForm (s : State) : Prop :=
  Memory.Form 8192 s.vram ∧ Memory.Form 8192 s.wram ∧ Memory.Form 160 s.oam ∧ Memory.Form 127 s.hram ∧
    Memory.Form 16 s.apu.ch3.ram ∧ s.cart.Form ∧ s.dma.Form

/-- The PPU: LY, dot, mode 3 length and sprite list in range, the mode that follows from (LY, dot) while the LCD
is on, the position of R785 while it is off, a frame buffer of 144 rows of 160 (R102, R780, R784, R785). -/
abbrev Ppu.Form (p : Ppu) : Prop :=
  p.ly.toNat ≤ 153 ∧ p.dot < 456 ∧ 172 ≤ p.mode3Len ∧ p.mode3Len ≤ 289 ∧ p.sprites.length ≤ 10 ∧
    (p.lcdOn = true → p.mode = modeOf p.ly p.dot p.mode3Len) ∧
    (p.lcdOn = false → p.ly = 0 ∧ p.dot = 0 ∧ p.mode = .hblank) ∧
    p.frame.length = 144 ∧ (p.frame.all fun row => decide (row.length = 160)) = true

/-- The APU: with the power off every channel is off, a channel that is on has its DAC on (R794, R796), and every
counter is in its range (R103). -/
abbrev Apu.Form (a : Apu) : Prop :=
  (a.power = false → a.ch1.on = false ∧ a.ch2.on = false ∧ a.ch3.on = false ∧ a.ch4.on = false) ∧
    (a.ch1.on = true → dacOn a.ch1.nr2 = true) ∧ (a.ch2.on = true → dacOn a.ch2.nr2 = true) ∧
    (a.ch3.on = true → a.ch3.dacOn = true) ∧ (a.ch4.on = true → dacOn a.ch4.nr42 = true) ∧
    a.ch1.len ≤ 64 ∧ a.ch2.len ≤ 64 ∧ a.ch3.len ≤ 256 ∧ a.ch4.len ≤ 64 ∧
    a.ch1.volume ≤ 15 ∧ a.ch2.volume ≤ 15 ∧ a.ch4.volume ≤ 15 ∧
    a.ch1.dutyPos < 8 ∧ a.ch2.dutyPos < 8 ∧ a.ch3.pos < 32 ∧ a.fsStep < 8 ∧ a.sweep.shadow ≤ 2047

/-- Between steps no cycle count is left over (log 11), and a TIMA reload is at most 4 T-cycles away (R100). -/
abbrev State.DriverForm (s : State) : Prop := s.opCycles = 0 ∧ s.timer.reloadCountdown ≤ 4

end Sys2Proof.Machine
end

