-- ==== Sys2Proof/WellFormed.lean ====
section
/-! DEFINITION. Which terms of `Instr` are instructions a byte string decodes to. Every operand is a bit
vector of exactly its encoded width, so no operand value is out of range. -/

namespace Sys2Proof

/-- The row `PREFIX CB` is not an instruction of its own: with its second byte it is the CB row of
that byte, which is what its bytes decode to (spec/46_misc.md R601, spec/30_encoding.md R244, log 10).
Every other term is one instruction. -/
def Instr.wf (i : Instr) : Bool :=
  match i with
  | .prefixCb _ => false
  | _ => true

end Sys2Proof
end

