-- ==== Sys2Proof/Certificates/Slice0/Obligations.lean ====
section
/-! DEFINITION. The statements for the provers, and the tables and shapes they are written with.
In every statement about `exec`, PC is past the instruction's bytes and `opCycles` is where the instruction leaves
its M-cycles for the driver: the form is the model's (DESIGN CHOICE, log 11), the values are the rules'. -/

open Sys2Proof Sys2Proof.Machine

namespace Sys2Proof.Claims

/-! ### Shapes: what an instruction leaves alone -/

/-- Nothing but the CPU and the cycle count differs. -/
def SameOutside (s t : State) : Prop := t = { s with cpu := t.cpu, opCycles := t.opCycles }

/-- Every 8-bit register but those listed is unchanged. -/
def KeepsRegsBut (ds : List Reg) (s t : State) : Prop := ∀ q, q ∉ ds → t.reg q = s.reg q

/-- IME, the EI latch, the run state and the fatal state are unchanged. -/
def KeepsControl (s t : State) : Prop :=
  t.cpu.ime = s.cpu.ime ∧ t.cpu.imePending = s.cpu.imePending ∧ t.cpu.halt = s.cpu.halt ∧ t.cpu.fatal = s.cpu.fatal

/-- The instruction completes, puts `v` in register `dst`, costs n M-cycles, and changes nothing else. -/
def LoadsReg (dst : Reg) (v : Byte) (n : Nat) (s : State) (out : Result) : Prop :=
  ∃ t, out = .next t ∧ t.reg dst = v ∧ KeepsRegsBut [dst] s t ∧ t.cpu.f = s.cpu.f ∧ t.cpu.sp = s.cpu.sp ∧
    t.cpu.pc = s.cpu.pc ∧ KeepsControl s t ∧ t.opCycles = n ∧ SameOutside s t

/-- As `LoadsReg`, and the flags become `f`. -/
def SetsReg (dst : Reg) (v : Byte) (f : Flags) (n : Nat) (s : State) (out : Result) : Prop :=
  ∃ t, out = .next t ∧ t.reg dst = v ∧ KeepsRegsBut [dst] s t ∧ t.cpu.f = f ∧ t.cpu.sp = s.cpu.sp ∧
    t.cpu.pc = s.cpu.pc ∧ KeepsControl s t ∧ t.opCycles = n ∧ SameOutside s t

/-- The instruction completes, puts `v` in the pair (or SP), the flags become `f`, and nothing else changes. -/
def SetsPair (p : Pair) (v : Word) (f : Flags) (n : Nat) (s : State) (out : Result) : Prop :=
  ∃ t, out = .next t ∧ t.pair p = v ∧ (∀ q, q ≠ p → t.pair q = s.pair q) ∧ t.cpu.a = s.cpu.a ∧ t.cpu.f = f ∧
    t.cpu.pc = s.cpu.pc ∧ KeepsControl s t ∧ t.opCycles = n ∧ SameOutside s t

/-- The high and low byte of a 16-bit value. -/
def high (v : Word) : Byte := v.extractLsb' 8 8
def low (v : Word) : Byte := v.extractLsb' 0 8

/-- The memory after the two stores of a push of `hi`, `lo` (R14), in that order. -/
def pushed (s : State) (hi lo : Byte) : State := busWrite (busWrite s (s.cpu.sp - 1) hi) (s.cpu.sp - 2) lo

/-- The number of a register or (HL) in an encoding (R233), of a pair (R234), of a condition (R235), of an ALU
operation (R237), of a rotate (R238). -/
def regCode : Reg → Nat
  | .b => 0 | .c => 1 | .d => 2 | .e => 3 | .h => 4 | .l => 5 | .a => 7
def r8Code : R8 → Nat
  | .reg r => regCode r
  | .atHl => 6
def pairCode : Pair → Nat
  | .bc => 0 | .de => 1 | .hl => 2 | .sp => 3
def stackCode : StackPair → Nat
  | .bc => 0 | .de => 1 | .hl => 2 | .af => 3
def condCode : Cond → Nat
  | .nz => 0 | .z => 1 | .nc => 2 | .c => 3
def aluCode : AluOp → Nat
  | .add => 0 | .adc => 1 | .sub => 2 | .sbc => 3 | .and => 4 | .xor => 5 | .or => 6 | .cp => 7
def rotCode : Rot → Nat
  | .rlc => 0 | .rrc => 1 | .rl => 2 | .rr => 3 | .sla => 4 | .sra => 5 | .swap => 6 | .srl => 7

/-- A byte of an encoding. -/
def op8 (n : Nat) : Byte := BitVec.ofNat 8 n

/-- `cond(cc)` (R550). -/
def condOf (cc : Cond) (f : Flags) : Bool :=
  match cc with
  | .nz => f.z == false
  | .z => f.z == true
  | .nc => f.c == false
  | .c => f.c == true

/-- The carry flag as a byte. -/
def carryByte (f : Flags) : Byte := if f.c then 1 else 0

/-- The low nibble of a byte. -/
def nibble (v : Byte) : Nat := (v &&& 0x0F).toNat

/-! ### Tables: the rows of spec/opcode_table.json by their operands -/

/-- `LD r,r'` (R301). -/
def ldRR : Reg → Reg → Instr
  | .b, .b => .ldBB
  | .b, .c => .ldBC
  | .b, .d => .ldBD
  | .b, .e => .ldBE
  | .b, .h => .ldBH
  | .b, .l => .ldBL
  | .b, .a => .ldBA
  | .c, .b => .ldCB
  | .c, .c => .ldCC
  | .c, .d => .ldCD
  | .c, .e => .ldCE
  | .c, .h => .ldCH
  | .c, .l => .ldCL
  | .c, .a => .ldCA
  | .d, .b => .ldDB
  | .d, .c => .ldDC
  | .d, .d => .ldDD
  | .d, .e => .ldDE
  | .d, .h => .ldDH
  | .d, .l => .ldDL
  | .d, .a => .ldDA
  | .e, .b => .ldEB
  | .e, .c => .ldEC
  | .e, .d => .ldED
  | .e, .e => .ldEE
  | .e, .h => .ldEH
  | .e, .l => .ldEL
  | .e, .a => .ldEA
  | .h, .b => .ldHB
  | .h, .c => .ldHC
  | .h, .d => .ldHD
  | .h, .e => .ldHE
  | .h, .h => .ldHH
  | .h, .l => .ldHL
  | .h, .a => .ldHA
  | .l, .b => .ldLB
  | .l, .c => .ldLC
  | .l, .d => .ldLD
  | .l, .e => .ldLE
  | .l, .h => .ldLH
  | .l, .l => .ldLL
  | .l, .a => .ldLA
  | .a, .b => .ldAB
  | .a, .c => .ldAC
  | .a, .d => .ldAD
  | .a, .e => .ldAE
  | .a, .h => .ldAH
  | .a, .l => .ldAL
  | .a, .a => .ldAA

/-- `LD r,d8` (R302). -/
def ldRN : Reg → Byte → Instr
  | .b, n => .ldBD8 n
  | .c, n => .ldCD8 n
  | .d, n => .ldDD8 n
  | .e, n => .ldED8 n
  | .h, n => .ldHD8 n
  | .l, n => .ldLD8 n
  | .a, n => .ldAD8 n

/-- `LD r,(HL)` (R303). -/
def ldRHl : Reg → Instr
  | .b => .ldBAtHl
  | .c => .ldCAtHl
  | .d => .ldDAtHl
  | .e => .ldEAtHl
  | .h => .ldHAtHl
  | .l => .ldLAtHl
  | .a => .ldAAtHl

/-- `LD (HL),r` (R304). -/
def ldHlR : Reg → Instr
  | .b => .ldAtHlB
  | .c => .ldAtHlC
  | .d => .ldAtHlD
  | .e => .ldAtHlE
  | .h => .ldAtHlH
  | .l => .ldAtHlL
  | .a => .ldAtHlA

/-- The two-operand ALU forms on a register or (HL) (R400). -/
def aluI : AluOp → R8 → Instr
  | .add, .reg .b => .addAB
  | .add, .reg .c => .addAC
  | .add, .reg .d => .addAD
  | .add, .reg .e => .addAE
  | .add, .reg .h => .addAH
  | .add, .reg .l => .addAL
  | .add, .atHl => .addAAtHl
  | .add, .reg .a => .addAA
  | .adc, .reg .b => .adcAB
  | .adc, .reg .c => .adcAC
  | .adc, .reg .d => .adcAD
  | .adc, .reg .e => .adcAE
  | .adc, .reg .h => .adcAH
  | .adc, .reg .l => .adcAL
  | .adc, .atHl => .adcAAtHl
  | .adc, .reg .a => .adcAA
  | .sub, .reg .b => .subB
  | .sub, .reg .c => .subC
  | .sub, .reg .d => .subD
  | .sub, .reg .e => .subE
  | .sub, .reg .h => .subH
  | .sub, .reg .l => .subL
  | .sub, .atHl => .subAtHl
  | .sub, .reg .a => .subA
  | .sbc, .reg .b => .sbcAB
  | .sbc, .reg .c => .sbcAC
  | .sbc, .reg .d => .sbcAD
  | .sbc, .reg .e => .sbcAE
  | .sbc, .reg .h => .sbcAH
  | .sbc, .reg .l => .sbcAL
  | .sbc, .atHl => .sbcAAtHl
  | .sbc, .reg .a => .sbcAA
  | .and, .reg .b => .andB
  | .and, .reg .c => .andC
  | .and, .reg .d => .andD
  | .and, .reg .e => .andE
  | .and, .reg .h => .andH
  | .and, .reg .l => .andL
  | .and, .atHl => .andAtHl
  | .and, .reg .a => .andA
  | .xor, .reg .b => .xorB
  | .xor, .reg .c => .xorC
  | .xor, .reg .d => .xorD
  | .xor, .reg .e => .xorE
  | .xor, .reg .h => .xorH
  | .xor, .reg .l => .xorL
  | .xor, .atHl => .xorAtHl
  | .xor, .reg .a => .xorA
  | .or, .reg .b => .orB
  | .or, .reg .c => .orC
  | .or, .reg .d => .orD
  | .or, .reg .e => .orE
  | .or, .reg .h => .orH
  | .or, .reg .l => .orL
  | .or, .atHl => .orAtHl
  | .or, .reg .a => .orA
  | .cp, .reg .b => .cpB
  | .cp, .reg .c => .cpC
  | .cp, .reg .d => .cpD
  | .cp, .reg .e => .cpE
  | .cp, .reg .h => .cpH
  | .cp, .reg .l => .cpL
  | .cp, .atHl => .cpAtHl
  | .cp, .reg .a => .cpA

/-- The two-operand ALU forms on an immediate (R400). -/
def aluN : AluOp → Byte → Instr
  | .add, n => .addAD8 n
  | .adc, n => .adcAD8 n
  | .sub, n => .subD8 n
  | .sbc, n => .sbcAD8 n
  | .and, n => .andD8 n
  | .xor, n => .xorD8 n
  | .or, n => .orD8 n
  | .cp, n => .cpD8 n

/-- `INC r`, `INC (HL)` (R409, R411). -/
def incI : R8 → Instr
  | .reg .b => .incB
  | .reg .c => .incC
  | .reg .d => .incD
  | .reg .e => .incE
  | .reg .h => .incH
  | .reg .l => .incL
  | .atHl => .incAtHl
  | .reg .a => .incA

/-- `DEC r`, `DEC (HL)` (R410, R412). -/
def decI : R8 → Instr
  | .reg .b => .decB
  | .reg .c => .decC
  | .reg .d => .decD
  | .reg .e => .decE
  | .reg .h => .decH
  | .reg .l => .decL
  | .atHl => .decAtHl
  | .reg .a => .decA

/-- `LD rr,d16` (R350). -/
def ldPairI : Pair → Word → Instr
  | .bc, v => .ldBcD16 v
  | .de, v => .ldDeD16 v
  | .hl, v => .ldHlD16 v
  | .sp, v => .ldSpD16 v

/-- `INC rr` (R451). -/
def incPairI : Pair → Instr
  | .bc => .incBc
  | .de => .incDe
  | .hl => .incHl
  | .sp => .incSp

/-- `DEC rr` (R452). -/
def decPairI : Pair → Instr
  | .bc => .decBc
  | .de => .decDe
  | .hl => .decHl
  | .sp => .decSp

/-- `ADD HL,rr` (R450). -/
def addHlI : Pair → Instr
  | .bc => .addHlBc
  | .de => .addHlDe
  | .hl => .addHlHl
  | .sp => .addHlSp

/-- `PUSH rr` (R353). -/
def pushI : StackPair → Instr
  | .bc => .pushBc
  | .de => .pushDe
  | .hl => .pushHl
  | .af => .pushAf

/-- `POP rr` (R354, R356). -/
def popI : StackPair → Instr
  | .bc => .popBc
  | .de => .popDe
  | .hl => .popHl
  | .af => .popAf

/-- `RLCA`, `RRCA`, `RLA`, `RRA` (R500 to R503), by the operation. -/
def rotAccI : Rot → Option Instr
  | .rlc => some .rlca
  | .rrc => some .rrca
  | .rl => some .rla
  | .rr => some .rra
  | .sla => none
  | .sra => none
  | .swap => none
  | .srl => none

/-- The CB rotates and shifts (R505 to R512). -/
def rotI : Rot → R8 → Instr
  | .rlc, .reg .b => .rlcB
  | .rlc, .reg .c => .rlcC
  | .rlc, .reg .d => .rlcD
  | .rlc, .reg .e => .rlcE
  | .rlc, .reg .h => .rlcH
  | .rlc, .reg .l => .rlcL
  | .rlc, .atHl => .rlcAtHl
  | .rlc, .reg .a => .rlcA
  | .rrc, .reg .b => .rrcB
  | .rrc, .reg .c => .rrcC
  | .rrc, .reg .d => .rrcD
  | .rrc, .reg .e => .rrcE
  | .rrc, .reg .h => .rrcH
  | .rrc, .reg .l => .rrcL
  | .rrc, .atHl => .rrcAtHl
  | .rrc, .reg .a => .rrcA
  | .rl, .reg .b => .rlB
  | .rl, .reg .c => .rlC
  | .rl, .reg .d => .rlD
  | .rl, .reg .e => .rlE
  | .rl, .reg .h => .rlH
  | .rl, .reg .l => .rlL
  | .rl, .atHl => .rlAtHl
  | .rl, .reg .a => .rlA
  | .rr, .reg .b => .rrB
  | .rr, .reg .c => .rrC
  | .rr, .reg .d => .rrD
  | .rr, .reg .e => .rrE
  | .rr, .reg .h => .rrH
  | .rr, .reg .l => .rrL
  | .rr, .atHl => .rrAtHl
  | .rr, .reg .a => .rrA
  | .sla, .reg .b => .slaB
  | .sla, .reg .c => .slaC
  | .sla, .reg .d => .slaD
  | .sla, .reg .e => .slaE
  | .sla, .reg .h => .slaH
  | .sla, .reg .l => .slaL
  | .sla, .atHl => .slaAtHl
  | .sla, .reg .a => .slaA
  | .sra, .reg .b => .sraB
  | .sra, .reg .c => .sraC
  | .sra, .reg .d => .sraD
  | .sra, .reg .e => .sraE
  | .sra, .reg .h => .sraH
  | .sra, .reg .l => .sraL
  | .sra, .atHl => .sraAtHl
  | .sra, .reg .a => .sraA
  | .swap, .reg .b => .swapB
  | .swap, .reg .c => .swapC
  | .swap, .reg .d => .swapD
  | .swap, .reg .e => .swapE
  | .swap, .reg .h => .swapH
  | .swap, .reg .l => .swapL
  | .swap, .atHl => .swapAtHl
  | .swap, .reg .a => .swapA
  | .srl, .reg .b => .srlB
  | .srl, .reg .c => .srlC
  | .srl, .reg .d => .srlD
  | .srl, .reg .e => .srlE
  | .srl, .reg .h => .srlH
  | .srl, .reg .l => .srlL
  | .srl, .atHl => .srlAtHl
  | .srl, .reg .a => .srlA

/-- `BIT b,r` (R513). -/
def bitI : Fin 8 → R8 → Instr
  | 0, .reg .b => .bit0B
  | 0, .reg .c => .bit0C
  | 0, .reg .d => .bit0D
  | 0, .reg .e => .bit0E
  | 0, .reg .h => .bit0H
  | 0, .reg .l => .bit0L
  | 0, .atHl => .bit0AtHl
  | 0, .reg .a => .bit0A
  | 1, .reg .b => .bit1B
  | 1, .reg .c => .bit1C
  | 1, .reg .d => .bit1D
  | 1, .reg .e => .bit1E
  | 1, .reg .h => .bit1H
  | 1, .reg .l => .bit1L
  | 1, .atHl => .bit1AtHl
  | 1, .reg .a => .bit1A
  | 2, .reg .b => .bit2B
  | 2, .reg .c => .bit2C
  | 2, .reg .d => .bit2D
  | 2, .reg .e => .bit2E
  | 2, .reg .h => .bit2H
  | 2, .reg .l => .bit2L
  | 2, .atHl => .bit2AtHl
  | 2, .reg .a => .bit2A
  | 3, .reg .b => .bit3B
  | 3, .reg .c => .bit3C
  | 3, .reg .d => .bit3D
  | 3, .reg .e => .bit3E
  | 3, .reg .h => .bit3H
  | 3, .reg .l => .bit3L
  | 3, .atHl => .bit3AtHl
  | 3, .reg .a => .bit3A
  | 4, .reg .b => .bit4B
  | 4, .reg .c => .bit4C
  | 4, .reg .d => .bit4D
  | 4, .reg .e => .bit4E
  | 4, .reg .h => .bit4H
  | 4, .reg .l => .bit4L
  | 4, .atHl => .bit4AtHl
  | 4, .reg .a => .bit4A
  | 5, .reg .b => .bit5B
  | 5, .reg .c => .bit5C
  | 5, .reg .d => .bit5D
  | 5, .reg .e => .bit5E
  | 5, .reg .h => .bit5H
  | 5, .reg .l => .bit5L
  | 5, .atHl => .bit5AtHl
  | 5, .reg .a => .bit5A
  | 6, .reg .b => .bit6B
  | 6, .reg .c => .bit6C
  | 6, .reg .d => .bit6D
  | 6, .reg .e => .bit6E
  | 6, .reg .h => .bit6H
  | 6, .reg .l => .bit6L
  | 6, .atHl => .bit6AtHl
  | 6, .reg .a => .bit6A
  | _, .reg .b => .bit7B
  | _, .reg .c => .bit7C
  | _, .reg .d => .bit7D
  | _, .reg .e => .bit7E
  | _, .reg .h => .bit7H
  | _, .reg .l => .bit7L
  | _, .atHl => .bit7AtHl
  | _, .reg .a => .bit7A

/-- `RES b,r` (R514). -/
def resI : Fin 8 → R8 → Instr
  | 0, .reg .b => .res0B
  | 0, .reg .c => .res0C
  | 0, .reg .d => .res0D
  | 0, .reg .e => .res0E
  | 0, .reg .h => .res0H
  | 0, .reg .l => .res0L
  | 0, .atHl => .res0AtHl
  | 0, .reg .a => .res0A
  | 1, .reg .b => .res1B
  | 1, .reg .c => .res1C
  | 1, .reg .d => .res1D
  | 1, .reg .e => .res1E
  | 1, .reg .h => .res1H
  | 1, .reg .l => .res1L
  | 1, .atHl => .res1AtHl
  | 1, .reg .a => .res1A
  | 2, .reg .b => .res2B
  | 2, .reg .c => .res2C
  | 2, .reg .d => .res2D
  | 2, .reg .e => .res2E
  | 2, .reg .h => .res2H
  | 2, .reg .l => .res2L
  | 2, .atHl => .res2AtHl
  | 2, .reg .a => .res2A
  | 3, .reg .b => .res3B
  | 3, .reg .c => .res3C
  | 3, .reg .d => .res3D
  | 3, .reg .e => .res3E
  | 3, .reg .h => .res3H
  | 3, .reg .l => .res3L
  | 3, .atHl => .res3AtHl
  | 3, .reg .a => .res3A
  | 4, .reg .b => .res4B
  | 4, .reg .c => .res4C
  | 4, .reg .d => .res4D
  | 4, .reg .e => .res4E
  | 4, .reg .h => .res4H
  | 4, .reg .l => .res4L
  | 4, .atHl => .res4AtHl
  | 4, .reg .a => .res4A
  | 5, .reg .b => .res5B
  | 5, .reg .c => .res5C
  | 5, .reg .d => .res5D
  | 5, .reg .e => .res5E
  | 5, .reg .h => .res5H
  | 5, .reg .l => .res5L
  | 5, .atHl => .res5AtHl
  | 5, .reg .a => .res5A
  | 6, .reg .b => .res6B
  | 6, .reg .c => .res6C
  | 6, .reg .d => .res6D
  | 6, .reg .e => .res6E
  | 6, .reg .h => .res6H
  | 6, .reg .l => .res6L
  | 6, .atHl => .res6AtHl
  | 6, .reg .a => .res6A
  | _, .reg .b => .res7B
  | _, .reg .c => .res7C
  | _, .reg .d => .res7D
  | _, .reg .e => .res7E
  | _, .reg .h => .res7H
  | _, .reg .l => .res7L
  | _, .atHl => .res7AtHl
  | _, .reg .a => .res7A

/-- `SET b,r` (R515). -/
def setI : Fin 8 → R8 → Instr
  | 0, .reg .b => .set0B
  | 0, .reg .c => .set0C
  | 0, .reg .d => .set0D
  | 0, .reg .e => .set0E
  | 0, .reg .h => .set0H
  | 0, .reg .l => .set0L
  | 0, .atHl => .set0AtHl
  | 0, .reg .a => .set0A
  | 1, .reg .b => .set1B
  | 1, .reg .c => .set1C
  | 1, .reg .d => .set1D
  | 1, .reg .e => .set1E
  | 1, .reg .h => .set1H
  | 1, .reg .l => .set1L
  | 1, .atHl => .set1AtHl
  | 1, .reg .a => .set1A
  | 2, .reg .b => .set2B
  | 2, .reg .c => .set2C
  | 2, .reg .d => .set2D
  | 2, .reg .e => .set2E
  | 2, .reg .h => .set2H
  | 2, .reg .l => .set2L
  | 2, .atHl => .set2AtHl
  | 2, .reg .a => .set2A
  | 3, .reg .b => .set3B
  | 3, .reg .c => .set3C
  | 3, .reg .d => .set3D
  | 3, .reg .e => .set3E
  | 3, .reg .h => .set3H
  | 3, .reg .l => .set3L
  | 3, .atHl => .set3AtHl
  | 3, .reg .a => .set3A
  | 4, .reg .b => .set4B
  | 4, .reg .c => .set4C
  | 4, .reg .d => .set4D
  | 4, .reg .e => .set4E
  | 4, .reg .h => .set4H
  | 4, .reg .l => .set4L
  | 4, .atHl => .set4AtHl
  | 4, .reg .a => .set4A
  | 5, .reg .b => .set5B
  | 5, .reg .c => .set5C
  | 5, .reg .d => .set5D
  | 5, .reg .e => .set5E
  | 5, .reg .h => .set5H
  | 5, .reg .l => .set5L
  | 5, .atHl => .set5AtHl
  | 5, .reg .a => .set5A
  | 6, .reg .b => .set6B
  | 6, .reg .c => .set6C
  | 6, .reg .d => .set6D
  | 6, .reg .e => .set6E
  | 6, .reg .h => .set6H
  | 6, .reg .l => .set6L
  | 6, .atHl => .set6AtHl
  | 6, .reg .a => .set6A
  | _, .reg .b => .set7B
  | _, .reg .c => .set7C
  | _, .reg .d => .set7D
  | _, .reg .e => .set7E
  | _, .reg .h => .set7H
  | _, .reg .l => .set7L
  | _, .atHl => .set7AtHl
  | _, .reg .a => .set7A

/-- `JR cc,e8` (R552). -/
def jrI : Cond → Byte → Instr
  | .nz, e => .jrNzE8 e
  | .z, e => .jrZE8 e
  | .nc, e => .jrNcE8 e
  | .c, e => .jrCE8 e

/-- `JP cc,a16` (R554). -/
def jpI : Cond → Word → Instr
  | .nz, a => .jpNzA16 a
  | .z, a => .jpZA16 a
  | .nc, a => .jpNcA16 a
  | .c, a => .jpCA16 a

/-- `CALL cc,a16` (R557). -/
def callI : Cond → Word → Instr
  | .nz, a => .callNzA16 a
  | .z, a => .callZA16 a
  | .nc, a => .callNcA16 a
  | .c, a => .callCA16 a

/-- `RET cc` (R559). -/
def retI : Cond → Instr
  | .nz => .retNz
  | .z => .retZ
  | .nc => .retNc
  | .c => .retC

/-- `RST n` with n = 8·y (R562). -/
def rstI : Fin 8 → Instr
  | 0 => .rst00
  | 1 => .rst08
  | 2 => .rst10
  | 3 => .rst18
  | 4 => .rst20
  | 5 => .rst28
  | 6 => .rst30
  | _ => .rst38

/-- The eleven undefined opcodes (R242, R611): byte and term. -/
def undefinedOps : List (Byte × Instr) :=
  [(0xD3, .undefinedD3), (0xDB, .undefinedDB), (0xDD, .undefinedDD), (0xE3, .undefinedE3),
   (0xE4, .undefinedE4), (0xEB, .undefinedEB), (0xEC, .undefinedEC), (0xED, .undefinedED),
   (0xF4, .undefinedF4), (0xFC, .undefinedFC), (0xFD, .undefinedFD)]

/-- The M-cycles of the rows of R240 and R241: the table's `cycles` column, by the flags for a conditional form.
The prefix has those of its CB row; an undefined opcode has none. -/
def cyclesOf (i : Instr) (f : Flags) : Nat :=
  match i with
  | .nop | .incB | .decB | .rlca | .incC | .decC | .rrca | .stop _ | .incD | .decD | .rla | .incE | .decE | .rra |
    .incH | .decH | .daa | .incL | .decL | .cpl | .scf | .incA | .decA | .ccf | .ldBB | .ldBC | .ldBD | .ldBE |
    .ldBH | .ldBL | .ldBA | .ldCB | .ldCC | .ldCD | .ldCE | .ldCH | .ldCL | .ldCA | .ldDB | .ldDC | .ldDD | .ldDE |
    .ldDH | .ldDL | .ldDA | .ldEB | .ldEC | .ldED | .ldEE | .ldEH | .ldEL | .ldEA | .ldHB | .ldHC | .ldHD | .ldHE |
    .ldHH | .ldHL | .ldHA | .ldLB | .ldLC | .ldLD | .ldLE | .ldLH | .ldLL | .ldLA | .halt | .ldAB | .ldAC | .ldAD |
    .ldAE | .ldAH | .ldAL | .ldAA | .addAB | .addAC | .addAD | .addAE | .addAH | .addAL | .addAA | .adcAB | .adcAC |
    .adcAD | .adcAE | .adcAH | .adcAL | .adcAA | .subB | .subC | .subD | .subE | .subH | .subL | .subA | .sbcAB |
    .sbcAC | .sbcAD | .sbcAE | .sbcAH | .sbcAL | .sbcAA | .andB | .andC | .andD | .andE | .andH | .andL | .andA |
    .xorB | .xorC | .xorD | .xorE | .xorH | .xorL | .xorA | .orB | .orC | .orD | .orE | .orH | .orL | .orA | .cpB |
    .cpC | .cpD | .cpE | .cpH | .cpL | .cpA | .jpHl | .di | .ei => 1
  | .ldAtBcA | .incBc | .ldBD8 _ | .addHlBc | .ldAAtBc | .decBc | .ldCD8 _ | .ldAtDeA | .incDe | .ldDD8 _ |
    .addHlDe | .ldAAtDe | .decDe | .ldED8 _ | .ldAtHliA | .incHl | .ldHD8 _ | .addHlHl | .ldAAtHli | .decHl |
    .ldLD8 _ | .ldAtHldA | .incSp | .addHlSp | .ldAAtHld | .decSp | .ldAD8 _ | .ldBAtHl | .ldCAtHl | .ldDAtHl |
    .ldEAtHl | .ldHAtHl | .ldLAtHl | .ldAtHlB | .ldAtHlC | .ldAtHlD | .ldAtHlE | .ldAtHlH | .ldAtHlL | .ldAtHlA |
    .ldAAtHl | .addAAtHl | .adcAAtHl | .subAtHl | .sbcAAtHl | .andAtHl | .xorAtHl | .orAtHl | .cpAtHl | .addAD8 _ |
    .rlcB | .rlcC | .rlcD | .rlcE | .rlcH | .rlcL | .rlcA | .rrcB | .rrcC | .rrcD | .rrcE | .rrcH | .rrcL | .rrcA |
    .rlB | .rlC | .rlD | .rlE | .rlH | .rlL | .rlA | .rrB | .rrC | .rrD | .rrE | .rrH | .rrL | .rrA | .slaB | .slaC |
    .slaD | .slaE | .slaH | .slaL | .slaA | .sraB | .sraC | .sraD | .sraE | .sraH | .sraL | .sraA | .swapB | .swapC |
    .swapD | .swapE | .swapH | .swapL | .swapA | .srlB | .srlC | .srlD | .srlE | .srlH | .srlL | .srlA | .bit0B |
    .bit0C | .bit0D | .bit0E | .bit0H | .bit0L | .bit0A | .bit1B | .bit1C | .bit1D | .bit1E | .bit1H | .bit1L |
    .bit1A | .bit2B | .bit2C | .bit2D | .bit2E | .bit2H | .bit2L | .bit2A | .bit3B | .bit3C | .bit3D | .bit3E |
    .bit3H | .bit3L | .bit3A | .bit4B | .bit4C | .bit4D | .bit4E | .bit4H | .bit4L | .bit4A | .bit5B | .bit5C |
    .bit5D | .bit5E | .bit5H | .bit5L | .bit5A | .bit6B | .bit6C | .bit6D | .bit6E | .bit6H | .bit6L | .bit6A |
    .bit7B | .bit7C | .bit7D | .bit7E | .bit7H | .bit7L | .bit7A | .res0B | .res0C | .res0D | .res0E | .res0H |
    .res0L | .res0A | .res1B | .res1C | .res1D | .res1E | .res1H | .res1L | .res1A | .res2B | .res2C | .res2D |
    .res2E | .res2H | .res2L | .res2A | .res3B | .res3C | .res3D | .res3E | .res3H | .res3L | .res3A | .res4B |
    .res4C | .res4D | .res4E | .res4H | .res4L | .res4A | .res5B | .res5C | .res5D | .res5E | .res5H | .res5L |
    .res5A | .res6B | .res6C | .res6D | .res6E | .res6H | .res6L | .res6A | .res7B | .res7C | .res7D | .res7E |
    .res7H | .res7L | .res7A | .set0B | .set0C | .set0D | .set0E | .set0H | .set0L | .set0A | .set1B | .set1C |
    .set1D | .set1E | .set1H | .set1L | .set1A | .set2B | .set2C | .set2D | .set2E | .set2H | .set2L | .set2A |
    .set3B | .set3C | .set3D | .set3E | .set3H | .set3L | .set3A | .set4B | .set4C | .set4D | .set4E | .set4H |
    .set4L | .set4A | .set5B | .set5C | .set5D | .set5E | .set5H | .set5L | .set5A | .set6B | .set6C | .set6D |
    .set6E | .set6H | .set6L | .set6A | .set7B | .set7C | .set7D | .set7E | .set7H | .set7L | .set7A | .adcAD8 _ |
    .subD8 _ | .sbcAD8 _ | .ldAtCA | .andD8 _ | .xorD8 _ | .ldAAtC | .orD8 _ | .ldSpHl | .cpD8 _ => 2
  | .ldBcD16 _ | .ldDeD16 _ | .jrE8 _ | .ldHlD16 _ | .ldSpD16 _ | .incAtHl | .decAtHl | .ldAtHlD8 _ | .popBc |
    .bit0AtHl | .bit1AtHl | .bit2AtHl | .bit3AtHl | .bit4AtHl | .bit5AtHl | .bit6AtHl | .bit7AtHl | .popDe |
    .ldhAtA8A _ | .popHl | .ldhAAtA8 _ | .popAf | .ldHlSpE8 _ => 3
  | .jpA16 _ | .pushBc | .rst00 | .ret | .rlcAtHl | .rrcAtHl | .rlAtHl | .rrAtHl | .slaAtHl | .sraAtHl | .swapAtHl |
    .srlAtHl | .res0AtHl | .res1AtHl | .res2AtHl | .res3AtHl | .res4AtHl | .res5AtHl | .res6AtHl | .res7AtHl |
    .set0AtHl | .set1AtHl | .set2AtHl | .set3AtHl | .set4AtHl | .set5AtHl | .set6AtHl | .set7AtHl | .rst08 |
    .pushDe | .rst10 | .reti | .rst18 | .pushHl | .rst20 | .addSpE8 _ | .ldAtA16A _ | .rst28 | .pushAf | .rst30 |
    .ldAAtA16 _ | .rst38 => 4
  | .ldAtA16Sp _ => 5
  | .callA16 _ => 6
  | .jrCE8 _ => if condOf .c f then 3 else 2
  | .jpCA16 _ => if condOf .c f then 4 else 3
  | .retC => if condOf .c f then 5 else 2
  | .callCA16 _ => if condOf .c f then 6 else 3
  | .jrZE8 _ => if condOf .z f then 3 else 2
  | .jpZA16 _ => if condOf .z f then 4 else 3
  | .retZ => if condOf .z f then 5 else 2
  | .callZA16 _ => if condOf .z f then 6 else 3
  | .jrNcE8 _ => if condOf .nc f then 3 else 2
  | .jpNcA16 _ => if condOf .nc f then 4 else 3
  | .retNc => if condOf .nc f then 5 else 2
  | .callNcA16 _ => if condOf .nc f then 6 else 3
  | .jrNzE8 _ => if condOf .nz f then 3 else 2
  | .jpNzA16 _ => if condOf .nz f then 4 else 3
  | .retNz => if condOf .nz f then 5 else 2
  | .callNzA16 _ => if condOf .nz f then 6 else 3
  | .prefixCb o => if o.toNat % 8 = 6 then (if 0x40 ≤ o.toNat ∧ o.toNat < 0x80 then 3 else 4) else 2
  | .undefinedD3 | .undefinedDB | .undefinedDD | .undefinedE3 | .undefinedE4 | .undefinedEB | .undefinedEC |
    .undefinedED | .undefinedF4 | .undefinedFC | .undefinedFD => 0

/-- Whether a rule of spec/40_load8.md to 46_misc.md writes some flag (R60): POP AF, LD HL,SP+e8, ADD SP,e8, the 8-bit
ALU, ADD HL,rr, the rotates, shifts and BIT, DAA, CPL, SCF, CCF, and the prefix by its CB row. -/
def writesFlags (i : Instr) : Bool :=
  match i with
  | .incB | .decB | .rlca | .addHlBc | .incC | .decC | .rrca | .incD | .decD | .rla | .addHlDe | .incE | .decE |
    .rra | .incH | .decH | .daa | .addHlHl | .incL | .decL | .cpl | .incAtHl | .decAtHl | .scf | .addHlSp | .incA |
    .decA | .ccf | .addAB | .addAC | .addAD | .addAE | .addAH | .addAL | .addAAtHl | .addAA | .adcAB | .adcAC |
    .adcAD | .adcAE | .adcAH | .adcAL | .adcAAtHl | .adcAA | .subB | .subC | .subD | .subE | .subH | .subL |
    .subAtHl | .subA | .sbcAB | .sbcAC | .sbcAD | .sbcAE | .sbcAH | .sbcAL | .sbcAAtHl | .sbcAA | .andB | .andC |
    .andD | .andE | .andH | .andL | .andAtHl | .andA | .xorB | .xorC | .xorD | .xorE | .xorH | .xorL | .xorAtHl |
    .xorA | .orB | .orC | .orD | .orE | .orH | .orL | .orAtHl | .orA | .cpB | .cpC | .cpD | .cpE | .cpH | .cpL |
    .cpAtHl | .cpA | .addAD8 _ | .rlcB | .rlcC | .rlcD | .rlcE | .rlcH | .rlcL | .rlcAtHl | .rlcA |
    .rrcB | .rrcC | .rrcD | .rrcE | .rrcH | .rrcL | .rrcAtHl | .rrcA | .rlB | .rlC | .rlD | .rlE | .rlH | .rlL |
    .rlAtHl | .rlA | .rrB | .rrC | .rrD | .rrE | .rrH | .rrL | .rrAtHl | .rrA | .slaB | .slaC | .slaD | .slaE |
    .slaH | .slaL | .slaAtHl | .slaA | .sraB | .sraC | .sraD | .sraE | .sraH | .sraL | .sraAtHl | .sraA | .swapB |
    .swapC | .swapD | .swapE | .swapH | .swapL | .swapAtHl | .swapA | .srlB | .srlC | .srlD | .srlE | .srlH | .srlL |
    .srlAtHl | .srlA | .bit0B | .bit0C | .bit0D | .bit0E | .bit0H | .bit0L | .bit0AtHl | .bit0A | .bit1B | .bit1C |
    .bit1D | .bit1E | .bit1H | .bit1L | .bit1AtHl | .bit1A | .bit2B | .bit2C | .bit2D | .bit2E | .bit2H | .bit2L |
    .bit2AtHl | .bit2A | .bit3B | .bit3C | .bit3D | .bit3E | .bit3H | .bit3L | .bit3AtHl | .bit3A | .bit4B | .bit4C |
    .bit4D | .bit4E | .bit4H | .bit4L | .bit4AtHl | .bit4A | .bit5B | .bit5C | .bit5D | .bit5E | .bit5H | .bit5L |
    .bit5AtHl | .bit5A | .bit6B | .bit6C | .bit6D | .bit6E | .bit6H | .bit6L | .bit6AtHl | .bit6A | .bit7B | .bit7C |
    .bit7D | .bit7E | .bit7H | .bit7L | .bit7AtHl | .bit7A | .adcAD8 _ | .subD8 _ | .sbcAD8 _ | .andD8 _ |
    .addSpE8 _ | .xorD8 _ | .popAf | .orD8 _ | .ldHlSpE8 _ | .cpD8 _ => true
  | .prefixCb o => decide (o.toNat < 0x80)
  | _ => false

/-! ### Results the rules give -/

/-- A two-operand instruction on each kind of source. -/
def aluInstr (op : AluOp) (src : Src) : Instr :=
  match src with
  | .r8 o => aluI op o
  | .imm n => aluN op n

/-- R400: the encoding of a two-operand form. -/
def aluBytes (op : AluOp) (src : Src) : List Byte :=
  match src with
  | .r8 o => [op8 (0x80 + 8 * aluCode op + r8Code o)]
  | .imm n => [op8 (0xC6 + 8 * aluCode op), n]

/-- R400: the source value. -/
def sourceValue (s : State) (src : Src) : Byte :=
  match src with
  | .r8 (.reg r) => s.reg r
  | .r8 .atHl => busRead s (s.pair .hl)
  | .imm n => n

/-- R400: 1 M-cycle for a register, 2 otherwise. -/
def sourceCycles (src : Src) : Nat :=
  match src with
  | .r8 (.reg _) => 1
  | .r8 .atHl => 2
  | .imm _ => 2

/-- R233: the value of `r8[z]`. -/
def operandValue (s : State) (o : R8) : Byte :=
  match o with
  | .reg r => s.reg r
  | .atHl => busRead s (s.pair .hl)

/-- R504: the instruction completes, writes `v` back to its operand once, and the flags become `f`; nothing else
changes, but for what the one store to (HL) does. -/
def WritesBack (o : R8) (v : Byte) (f : Flags) (regCycles memCycles : Nat) (s : State) (out : Result) : Prop :=
  match o with
  | .reg r => SetsReg r v f regCycles s out
  | .atHl => out = .next { busWrite s (s.pair .hl) v with cpu := { s.cpu with f := f }, opCycles := memCycles }

/-- R505 to R512: the result of a rotate or shift. -/
def rotated (op : Rot) (f : Flags) (v : Byte) : Byte :=
  match op with
  | .rlc => v.rotateLeft 1
  | .rrc => v.rotateRight 1
  | .rl => (v <<< 1) ||| carryByte f
  | .rr => (v >>> 1) ||| (carryByte f <<< 7)
  | .sla => v <<< 1
  | .sra => (v >>> 1) ||| (v &&& 0x80)
  | .swap => v.rotateLeft 4
  | .srl => v >>> 1

/-- R505 to R512: the bit shifted out; SWAP clears C. -/
def shiftedOut (op : Rot) (v : Byte) : Bool :=
  match op with
  | .rlc | .rl | .sla => v.getLsbD 7
  | .rrc | .rr | .sra | .srl => v.getLsbD 0
  | .swap => false

/-- R606: A after DAA. -/
def daaValue (f : Flags) (a : Byte) : Byte :=
  if f.n then a - (if f.h then 0x06 else 0) - (if f.c then 0x60 else 0)
  else a + (if f.h ∨ 9 < nibble a then 0x06 else 0) + (if f.c ∨ 0x99 < a.toNat then 0x60 else 0)

/-- A byte of two decimal digits, and its value. -/
def validBcd (v : Byte) : Prop := nibble v ≤ 9 ∧ v.toNat / 16 ≤ 9
def bcdValue (v : Byte) : Nat := v.toNat / 16 * 10 + nibble v

/-! ### Memory frames -/

/-- No address of the list lies in a range (both ends included). -/
def NoneIn (as : List Word) (lo hi : Nat) : Prop := ∀ a ∈ as, ¬(lo ≤ a.toNat ∧ a.toNat ≤ hi)

/-! ### Devices -/

/-- `sel(tac)` of R760: bit 9, 3, 5 or 7 of the counter. -/
def selectedBit (tac : BitVec 3) : Nat :=
  match tac.toNat % 4 with
  | 0 => 9
  | 1 => 3
  | 2 => 5
  | _ => 7

/-- The falling edge of R760: the selected bit of the counter goes from 1 to 0 with TAC.2 = 1. -/
def fallingEdge (t : Timer) : Bool :=
  t.tac.getLsbD 2 && t.counter.getLsbD (selectedBit t.tac) && !(t.counter + 1).getLsbD (selectedBit t.tac)

/-- The TIMA input periods of R760, in T-cycles. -/
def timaPeriod (tac : BitVec 3) : Nat :=
  match tac.toNat % 4 with
  | 0 => 1024
  | 1 => 16
  | 2 => 64
  | _ => 256

/-- The registers that store what is written, with the bits that read 1 and the bits that are kept: (address, ones,
kept) (R70, R71, R74, R75, R77 to R79, R88, R90, R92, R94 to R96). -/
def storageRegisters : List (Word × Byte × Byte) :=
  [(0xFF01, 0x00, 0xFF), (0xFF02, 0x7E, 0x81), (0xFF05, 0x00, 0xFF), (0xFF06, 0x00, 0xFF), (0xFF07, 0xF8, 0x07)] ++
  [(0xFF0F, 0xE0, 0x1F), (0xFF40, 0x00, 0xFF), (0xFF42, 0x00, 0xFF), (0xFF43, 0x00, 0xFF), (0xFF45, 0x00, 0xFF)] ++
  [(0xFF47, 0x00, 0xFF), (0xFF48, 0x00, 0xFF), (0xFF49, 0x00, 0xFF), (0xFF4A, 0x00, 0xFF), (0xFF4B, 0x00, 0xFF)] ++
  [(0xFFFF, 0x00, 0xFF)]

/-- The APU registers NR10 to NR51 with their read masks (R86): (address low byte, mask). -/
def apuMasks : List (Nat × Byte) :=
  [(0x10, 0x80), (0x11, 0x3F), (0x12, 0x00), (0x13, 0xFF), (0x14, 0xBF), (0x16, 0x3F), (0x17, 0x00), (0x18, 0xFF)] ++
  [(0x19, 0xBF), (0x1A, 0x7F), (0x1B, 0xFF), (0x1C, 0x9F), (0x1D, 0xFF), (0x1E, 0xBF), (0x20, 0xFF), (0x21, 0x00)] ++
  [(0x22, 0x00), (0x23, 0xBF), (0x24, 0x00), (0x25, 0x00)]

/-- ROMBANK of R173. -/
def romBankByte (c : Cart) (bank offset : Nat) : Byte := c.rom.bytes.read (bank % c.romBanks * 0x4000 + offset)

/-- The RAM byte of R173. -/
def ramBankCell (c : Cart) (bank offset : Nat) : Nat := (bank % max 1 (c.ramSize / 8192) * 0x2000 + offset) % c.ramSize

end Sys2Proof.Claims

open Sys2Proof.Claims

/-! ### Encoding -/

/-- R230, R231, R240, R241: the decoder reads back every well-formed instruction, with every operand value, and leaves
the bytes after it. STOP carries its second byte (DEDUCED, log 9) and the prefix is no instruction of its own (log 10). -/
def Obligations.DecodeOfEncode : Prop :=
  ∀ (i : Instr) (rest : List Byte), i.wf = true → decode (encode i ++ rest) = .ok (i, rest)

/-- R244: the decoder is total. Any three bytes begin with a well-formed instruction, whose encoding is those bytes:
no bit is dropped; a byte string is refused only where it ends inside its instruction. STOP carries its second byte and
the prefix is no instruction of its own (DEDUCED, log 9, 10). -/
def Obligations.EveryByteStringDecodes : Prop :=
  (∀ b0 b1 b2 : Byte, (decode3 b0 b1 b2).wf = true ∧ 1 ≤ (encode (decode3 b0 b1 b2)).length ∧
    encode (decode3 b0 b1 b2) = [b0, b1, b2].take (encode (decode3 b0 b1 b2)).length) ∧
  (∀ bs : List Byte, 3 ≤ bs.length → ∃ i rest, decode bs = .ok (i, rest) ∧ bs = encode i ++ rest) ∧
  decode [] = .error .empty

/-- R240, R241: words written out from the tables, one or more of each family. -/
def Obligations.WordsOfTheTables : Prop :=
  decode3 0b01000001 0 0 = .ldBC ∧ decode3 0b00111110 0x3E 0 = .ldAD8 0x3E ∧ decode3 0b11111010 0x23 0xC1 = .ldAAtA16 0xC123 ∧
  decode3 0b00110001 0xFE 0xFF = .ldSpD16 0xFFFE ∧ decode3 0b11110101 0 0 = .pushAf ∧ decode3 0b11111000 0x02 0 = .ldHlSpE8 0x02 ∧
  decode3 0b10001110 0 0 = .adcAAtHl ∧ decode3 0b11111110 0x40 0 = .cpD8 0x40 ∧ decode3 0b00110101 0 0 = .decAtHl ∧
  decode3 0b00111001 0 0 = .addHlSp ∧ decode3 0b11101000 0xFE 0 = .addSpE8 0xFE ∧
  decode3 0b11001011 0b01111100 0 = .bit7H ∧ decode3 0b11001011 0b00110111 0 = .swapA ∧ decode3 0b00011111 0 0 = .rra ∧
  decode3 0b00100000 0xFD 0 = .jrNzE8 0xFD ∧ decode3 0b11001101 0x34 0x12 = .callA16 0x1234 ∧ decode3 0b11111111 0 0 = .rst38 ∧
  decode3 0b00010000 0x00 0 = .stop 0x00 ∧ decode3 0b01110110 0 0 = .halt ∧ decode3 0b11011101 0 0 = .undefinedDD

/-! ### 8-bit loads -/

/-- R301, R302, R303: a load into a register changes that register and nothing else. `LD H,(HL)` and `LD L,(HL)` read
with the old HL.
R306, R307, R310, R312, R314: the loads of A from memory. -/
def Obligations.ByteLoads : Prop :=
  (∀ (dst r : Reg) (n : Byte) (s : State),
     encode (ldRR dst r) = [op8 (0x40 + 8 * regCode dst + regCode r)] ∧ LoadsReg dst (s.reg r) 1 s (exec (ldRR dst r) s) ∧
     encode (ldRN dst n) = [op8 (0x06 + 8 * regCode dst), n] ∧ LoadsReg dst n 2 s (exec (ldRN dst n) s) ∧
     encode (ldRHl dst) = [op8 (0x46 + 8 * regCode dst)] ∧ LoadsReg dst (busRead s (s.pair .hl)) 2 s (exec (ldRHl dst) s)) ∧
  (∀ (a : Word) (n : Byte) (s : State),
     encode .ldAAtBc = [0x0A] ∧ LoadsReg .a (busRead s (s.pair .bc)) 2 s (exec .ldAAtBc s) ∧
     encode .ldAAtDe = [0x1A] ∧ LoadsReg .a (busRead s (s.pair .de)) 2 s (exec .ldAAtDe s) ∧
     encode (.ldAAtA16 a) = [0xFA, low a, high a] ∧ LoadsReg .a (busRead s a) 4 s (exec (.ldAAtA16 a) s) ∧
     encode (.ldhAAtA8 n) = [0xF0, n] ∧ LoadsReg .a (busRead s (0xFF00 + n.zeroExtend 16)) 3 s (exec (.ldhAAtA8 n) s) ∧
     encode .ldAAtC = [0xF2] ∧ LoadsReg .a (busRead s (0xFF00 + s.cpu.c.zeroExtend 16)) 2 s (exec .ldAAtC s))

/-- R304, R305, R308, R309, R311, R313, R315: an 8-bit store is one bus write; no register, flag or control bit
changes. -/
def Obligations.ByteStores : Prop :=
  ∀ (r : Reg) (a : Word) (n : Byte) (s : State),
    encode (ldHlR r) = [op8 (0x70 + regCode r)] ∧
      exec (ldHlR r) s = .next { busWrite s (s.pair .hl) (s.reg r) with cpu := s.cpu, opCycles := 2 } ∧
    encode (.ldAtHlD8 n) = [0x36, n] ∧
      exec (.ldAtHlD8 n) s = .next { busWrite s (s.pair .hl) n with cpu := s.cpu, opCycles := 3 } ∧
    encode .ldAtBcA = [0x02] ∧ exec .ldAtBcA s = .next { busWrite s (s.pair .bc) s.cpu.a with cpu := s.cpu, opCycles := 2 } ∧
    encode .ldAtDeA = [0x12] ∧ exec .ldAtDeA s = .next { busWrite s (s.pair .de) s.cpu.a with cpu := s.cpu, opCycles := 2 } ∧
    encode (.ldAtA16A a) = [0xEA, low a, high a] ∧
      exec (.ldAtA16A a) s = .next { busWrite s a s.cpu.a with cpu := s.cpu, opCycles := 4 } ∧
    encode (.ldhAtA8A n) = [0xE0, n] ∧
      exec (.ldhAtA8A n) s = .next { busWrite s (0xFF00 + n.zeroExtend 16) s.cpu.a with cpu := s.cpu, opCycles := 3 } ∧
    encode .ldAtCA = [0xE2] ∧
      exec .ldAtCA s = .next { busWrite s (0xFF00 + s.cpu.c.zeroExtend 16) s.cpu.a with cpu := s.cpu, opCycles := 2 }

/-- R316 to R319: the access uses the old HL; then HL moves by one, modulo 2^16. -/
def Obligations.HlSteppingLoads : Prop :=
  ∀ s : State,
    let up := s.pair .hl + 1
    let down := s.pair .hl - 1
    encode .ldAtHliA = [0x22] ∧ encode .ldAtHldA = [0x32] ∧ encode .ldAAtHli = [0x2A] ∧ encode .ldAAtHld = [0x3A] ∧
    exec .ldAtHliA s = .next { busWrite s (s.pair .hl) s.cpu.a with cpu := { s.cpu with h := high up, l := low up }, opCycles := 2 } ∧
    exec .ldAtHldA s = .next { busWrite s (s.pair .hl) s.cpu.a with cpu := { s.cpu with h := high down, l := low down }, opCycles := 2 } ∧
    exec .ldAAtHli s =
      .next { s with cpu := { s.cpu with a := busRead s (s.pair .hl), h := high up, l := low up }, opCycles := 2 } ∧
    exec .ldAAtHld s =
      .next { s with cpu := { s.cpu with a := busRead s (s.pair .hl), h := high down, l := low down }, opCycles := 2 }

/-! ### 16-bit loads and the stack -/

/-- R350, R352: the 16-bit loads of a pair or SP.
R351: SP is stored low byte first, at a16 and a16 + 1. -/
def Obligations.WordLoads : Prop :=
  (∀ (p : Pair) (v : Word) (s : State),
     encode (ldPairI p v) = [op8 (0x01 + 16 * pairCode p), low v, high v] ∧ SetsPair p v s.cpu.f 3 s (exec (ldPairI p v) s) ∧
     encode .ldSpHl = [0xF9] ∧ SetsPair .sp (s.pair .hl) s.cpu.f 2 s (exec .ldSpHl s)) ∧
  (∀ (a : Word) (s : State),
     encode (.ldAtA16Sp a) = [0x08, low a, high a] ∧
     exec (.ldAtA16Sp a) s =
       .next { busWrite (busWrite s a (low s.cpu.sp)) (a + 1) (high s.cpu.sp) with cpu := s.cpu, opCycles := 5 })

/-- R353: a push stores the high register at SP − 1 and the low one at SP − 2; for AF the low nibble stored is 0 (R52).
R354, R356: a pop reads the low byte at SP and the high byte at SP + 1, and SP moves up by 2; POP AF takes the flags from
bits 7 to 4 and discards the low nibble. -/
def Obligations.PushesAndPops : Prop :=
  (∀ (p : StackPair) (s : State),
     let hi := match p with
       | .bc => s.cpu.b
       | .de => s.cpu.d
       | .hl => s.cpu.h
       | .af => s.cpu.a
     let lo := match p with
       | .bc => s.cpu.c
       | .de => s.cpu.e
       | .hl => s.cpu.l
       | .af => s.cpu.f.toByte
     encode (pushI p) = [op8 (0xC5 + 16 * stackCode p)] ∧
     exec (pushI p) s = .next { pushed s hi lo with cpu := { s.cpu with sp := s.cpu.sp - 2 }, opCycles := 4 } ∧
     s.cpu.f.toByte &&& 0x0F = 0 ∧ s.cpu.f.toByte.getLsbD 7 = s.cpu.f.z ∧ s.cpu.f.toByte.getLsbD 6 = s.cpu.f.n ∧
     s.cpu.f.toByte.getLsbD 5 = s.cpu.f.h ∧ s.cpu.f.toByte.getLsbD 4 = s.cpu.f.c) ∧
  (∀ s : State,
     let lo := busRead s s.cpu.sp
     let hi := busRead s (s.cpu.sp + 1)
     let after := { s.cpu with sp := s.cpu.sp + 2 }
     encode .popBc = [0xC1] ∧ exec .popBc s = .next { s with cpu := { after with b := hi, c := lo }, opCycles := 3 } ∧
     encode .popDe = [0xD1] ∧ exec .popDe s = .next { s with cpu := { after with d := hi, e := lo }, opCycles := 3 } ∧
     encode .popHl = [0xE1] ∧ exec .popHl s = .next { s with cpu := { after with h := hi, l := lo }, opCycles := 3 } ∧
     encode .popAf = [0xF1] ∧
     exec .popAf s =
       .next { s with
         cpu := { after with a := hi, f := ⟨lo.getLsbD 7, lo.getLsbD 6, lo.getLsbD 5, lo.getLsbD 4⟩ }
         opCycles := 3 })

/-- R359, R453: SP plus a signed displacement; H and C are the carries of the unsigned sum of the low bytes, Z and N are
0. -/
def Obligations.StackPointerDisplacements : Prop :=
  ∀ (e : Byte) (s : State),
    let f : Flags :=
      { z := false, n := false
        h := decide (0xF < nibble (low s.cpu.sp) + nibble e)
        c := decide (0xFF < (low s.cpu.sp).toNat + e.toNat) }
    encode (.ldHlSpE8 e) = [0xF8, e] ∧ SetsPair .hl (s.cpu.sp + e.signExtend 16) f 3 s (exec (.ldHlSpE8 e) s) ∧
    encode (.addSpE8 e) = [0xE8, e] ∧ SetsPair .sp (s.cpu.sp + e.signExtend 16) f 4 s (exec (.addSpE8 e) s)

/-! ### ALU -/

/-- R401, R402: ADD and ADC on every source form. -/
def Obligations.Additions : Prop :=
  ∀ (src : Src) (s : State),
    let a := s.cpu.a
    let v := sourceValue s src
    let c := carryByte s.cpu.f
    encode (aluInstr .add src) = aluBytes .add src ∧ encode (aluInstr .adc src) = aluBytes .adc src ∧
    SetsReg .a (a + v)
      ⟨decide (a + v = 0), false, decide (0xF < nibble a + nibble v), decide (0xFF < a.toNat + v.toNat)⟩
      (sourceCycles src) s (exec (aluInstr .add src) s) ∧
    SetsReg .a (a + v + c)
      ⟨decide (a + v + c = 0), false, decide (0xF < nibble a + nibble v + c.toNat), decide (0xFF < a.toNat + v.toNat + c.toNat)⟩
      (sourceCycles src) s (exec (aluInstr .adc src) s)

/-- R403, R404, R408: SUB, SBC and CP on every source form; CP leaves A. -/
def Obligations.Subtractions : Prop :=
  ∀ (src : Src) (s : State),
    let a := s.cpu.a
    let v := sourceValue s src
    let c := carryByte s.cpu.f
    let f : Flags := ⟨decide (a = v), true, decide (nibble a < nibble v), decide (a.toNat < v.toNat)⟩
    encode (aluInstr .sub src) = aluBytes .sub src ∧ encode (aluInstr .sbc src) = aluBytes .sbc src ∧
    encode (aluInstr .cp src) = aluBytes .cp src ∧
    SetsReg .a (a - v) f (sourceCycles src) s (exec (aluInstr .sub src) s) ∧
    SetsReg .a a f (sourceCycles src) s (exec (aluInstr .cp src) s) ∧
    SetsReg .a (a - v - c)
      ⟨decide (a = v + c), true, decide (nibble a < nibble v + c.toNat), decide (a.toNat < v.toNat + c.toNat)⟩
      (sourceCycles src) s (exec (aluInstr .sbc src) s)

/-- R405, R406, R407: AND, XOR and OR on every source form. -/
def Obligations.LogicalOperations : Prop :=
  ∀ (src : Src) (s : State),
    let a := s.cpu.a
    let v := sourceValue s src
    encode (aluInstr .and src) = aluBytes .and src ∧ encode (aluInstr .xor src) = aluBytes .xor src ∧
    encode (aluInstr .or src) = aluBytes .or src ∧
    SetsReg .a (a &&& v) ⟨decide (a &&& v = 0), false, true, false⟩ (sourceCycles src) s (exec (aluInstr .and src) s) ∧
    SetsReg .a (a ^^^ v) ⟨decide (a = v), false, false, false⟩ (sourceCycles src) s (exec (aluInstr .xor src) s) ∧
    SetsReg .a (a ||| v) ⟨decide (a = 0 ∧ v = 0), false, false, false⟩ (sourceCycles src) s (exec (aluInstr .or src) s)

/-- R409 to R412: INC and DEC of a register or of the byte at HL; C is kept. -/
def Obligations.IncrementsAndDecrements : Prop :=
  ∀ (o : R8) (s : State),
    let v := operandValue s o
    encode (incI o) = [op8 (0x04 + 8 * r8Code o)] ∧ encode (decI o) = [op8 (0x05 + 8 * r8Code o)] ∧
    WritesBack o (v + 1) ⟨decide (v = 0xFF), false, decide (nibble v = 0xF), s.cpu.f.c⟩ 1 3 s (exec (incI o) s) ∧
    WritesBack o (v - 1) ⟨decide (v = 0x01), true, decide (nibble v = 0x0), s.cpu.f.c⟩ 1 3 s (exec (decI o) s)

/-- R450: ADD HL,rr sets H on a carry out of bit 11 and C on one out of bit 15, clears N and keeps Z.
R451, R452: INC and DEC of a pair or SP, modulo 2^16, write no flag. -/
def Obligations.PairArithmetic : Prop :=
  (∀ (p : Pair) (s : State),
     let hl := s.pair .hl
     let rr := s.pair p
     encode (addHlI p) = [op8 (0x09 + 16 * pairCode p)] ∧
     SetsPair .hl (hl + rr)
       ⟨s.cpu.f.z, false, decide (0xFFF < (hl &&& 0xFFF).toNat + (rr &&& 0xFFF).toNat), decide (0xFFFF < hl.toNat + rr.toNat)⟩
       2 s (exec (addHlI p) s)) ∧
  (∀ (p : Pair) (s : State),
     encode (incPairI p) = [op8 (0x03 + 16 * pairCode p)] ∧ SetsPair p (s.pair p + 1) s.cpu.f 2 s (exec (incPairI p) s) ∧
     encode (decPairI p) = [op8 (0x0B + 16 * pairCode p)] ∧ SetsPair p (s.pair p - 1) s.cpu.f 2 s (exec (decPairI p) s))

/-! ### Rotates, shifts and bits -/

/-- R500 to R503: the accumulator rotates; Z is always 0.
R504 to R512: the CB rotates and shifts, on a register or on (HL). -/
def Obligations.RotatesAndShifts : Prop :=
  (∀ (op : Rot) (i : Instr) (s : State), rotAccI op = some i →
     encode i = [op8 (0x07 + 8 * rotCode op)] ∧
     SetsReg .a (rotated op s.cpu.f s.cpu.a) ⟨false, false, false, shiftedOut op s.cpu.a⟩ 1 s (exec i s)) ∧
  (∀ (op : Rot) (o : R8) (s : State),
     let v := operandValue s o
     let r := rotated op s.cpu.f v
     encode (rotI op o) = [0xCB, op8 (8 * rotCode op + r8Code o)] ∧
     WritesBack o r ⟨decide (r = 0), false, false, shiftedOut op v⟩ 2 4 s (exec (rotI op o) s))

/-- R513, R514, R515: BIT reads and writes nothing back; RES and SET write back one bit cleared or set, and no flag. -/
def Obligations.BitOperations : Prop :=
  ∀ (k : Fin 8) (o : R8) (s : State),
    let v := operandValue s o
    encode (bitI k o) = [0xCB, op8 (0x40 + 8 * k.val + r8Code o)] ∧
    encode (resI k o) = [0xCB, op8 (0x80 + 8 * k.val + r8Code o)] ∧
    encode (setI k o) = [0xCB, op8 (0xC0 + 8 * k.val + r8Code o)] ∧
    exec (bitI k o) s =
      .next { s with
        cpu := { s.cpu with f := ⟨v.getLsbD k.val == false, false, true, s.cpu.f.c⟩ }
        opCycles := if o = .atHl then 3 else 2 } ∧
    (∃ r, WritesBack o r s.cpu.f 2 4 s (exec (resI k o) s) ∧
      ∀ j < 8, r.getLsbD j = (v.getLsbD j && decide (j ≠ k.val))) ∧
    (∃ r, WritesBack o r s.cpu.f 2 4 s (exec (setI k o) s) ∧
      ∀ j < 8, r.getLsbD j = (v.getLsbD j || decide (j = k.val)))

/-! ### Control transfer -/

/-- R551 to R555: jumps. PC holds the address of the next instruction; a conditional jump not taken leaves it. -/
def Obligations.Jumps : Prop :=
  ∀ (cc : Cond) (e : Byte) (a : Word) (s : State),
    let goes (pc : Word) (n : Nat) : Result := .next { s with cpu := { s.cpu with pc := pc }, opCycles := n }
    encode (.jrE8 e) = [0x18, e] ∧ exec (.jrE8 e) s = goes (s.cpu.pc + e.signExtend 16) 3 ∧
    encode (jrI cc e) = [op8 (0x20 + 8 * condCode cc), e] ∧
    exec (jrI cc e) s = (if condOf cc s.cpu.f then goes (s.cpu.pc + e.signExtend 16) 3 else goes s.cpu.pc 2) ∧
    encode (.jpA16 a) = [0xC3, low a, high a] ∧ exec (.jpA16 a) s = goes a 4 ∧
    encode (jpI cc a) = [op8 (0xC2 + 8 * condCode cc), low a, high a] ∧
    exec (jpI cc a) s = (if condOf cc s.cpu.f then goes a 4 else goes s.cpu.pc 3) ∧
    encode .jpHl = [0xE9] ∧ exec .jpHl s = goes (s.pair .hl) 1

/-- R556, R557, R562: calls and RST push the address of the next instruction and go to their target; a call not taken
touches no stack. -/
def Obligations.CallsAndRestarts : Prop :=
  ∀ (cc : Cond) (k : Fin 8) (a : Word) (s : State),
    let goes (target : Word) (n : Nat) : Result :=
      .next { pushed s (high s.cpu.pc) (low s.cpu.pc) with
        cpu := { s.cpu with sp := s.cpu.sp - 2, pc := target }
        opCycles := n }
    encode (.callA16 a) = [0xCD, low a, high a] ∧ exec (.callA16 a) s = goes a 6 ∧
    encode (callI cc a) = [op8 (0xC4 + 8 * condCode cc), low a, high a] ∧
    exec (callI cc a) s = (if condOf cc s.cpu.f then goes a 6 else .next { s with opCycles := 3 }) ∧
    encode (rstI k) = [op8 (0xC7 + 8 * k.val)] ∧ exec (rstI k) s = goes (BitVec.ofNat 16 (8 * k.val)) 4

/-- R558, R559, R560: returns pop PC; RETI sets IME at once. -/
def Obligations.Returns : Prop :=
  ∀ (cc : Cond) (s : State),
    let target : Word := busRead s (s.cpu.sp + 1) ++ busRead s s.cpu.sp
    let back := { s.cpu with sp := s.cpu.sp + 2, pc := target }
    encode .ret = [0xC9] ∧ exec .ret s = .next { s with cpu := back, opCycles := 4 } ∧
    encode (retI cc) = [op8 (0xC0 + 8 * condCode cc)] ∧
    exec (retI cc) s =
      (if condOf cc s.cpu.f then .next { s with cpu := back, opCycles := 5 } else .next { s with opCycles := 2 }) ∧
    encode .reti = [0xD9] ∧ exec .reti s = .next { s with cpu := { back with ime := true }, opCycles := 4 }

/-! ### Miscellaneous -/

/-- R600, R602, R603: NOP does nothing; HALT and STOP enter their states; STOP consumes the byte after it exactly when
`stop_length` is 2 (D8). The state given to `exec` has PC past both bytes of STOP.
R601: the prefix with its second byte is the CB instruction of that byte.
R604, R605: DI clears IME and the EI latch at once; EI sets the latch only.
Two clauses rest on the model's own reading of the spec: that `exec` puts PC back by one at `stop_length` 1 (DEDUCED, log 9)
and that the prefix row is a constructor with its second byte (DEDUCED, log 10). -/
def Obligations.SystemInstructions : Prop :=
  (∀ (x : Byte) (s : State),
     encode .nop = [0x00] ∧ exec .nop s = .next { s with opCycles := 1 } ∧
     encode .halt = [0x76] ∧ exec .halt s = .next { s with cpu := { s.cpu with halt := .halted }, opCycles := 1 } ∧
     encode (.stop x) = [0x10, x] ∧
     exec (.stop x) s =
       .next { s with
         cpu := { s.cpu with
           halt := .stopped
           pc := match s.params.stopLength with
             | .two => s.cpu.pc
             | .one => s.cpu.pc - 1 }
         opCycles := 1 }) ∧
  (∀ (o : Byte) (s : State), exec (.prefixCb o) s = exec (decodeCb o) s) ∧
  (∀ s : State,
     encode .di = [0xF3] ∧ exec .di s = .next { s with cpu := { s.cpu with ime := false, imePending := false }, opCycles := 1 } ∧
     encode .ei = [0xFB] ∧ exec .ei s = .next { s with cpu := { s.cpu with imePending := true }, opCycles := 1 })

/-- R606 to R609: DAA, CPL, SCF, CCF. -/
def Obligations.AccumulatorAndFlagOperations : Prop :=
  ∀ s : State,
    let f := s.cpu.f
    let a := s.cpu.a
    encode .daa = [0x27] ∧
    SetsReg .a (daaValue f a)
      ⟨decide (daaValue f a = 0), f.n, false, f.c || (!f.n && decide (0x99 < a.toNat))⟩ 1 s (exec .daa s) ∧
    encode .cpl = [0x2F] ∧ SetsReg .a (0xFF - a) ⟨f.z, true, true, f.c⟩ 1 s (exec .cpl s) ∧
    encode .scf = [0x37] ∧ SetsReg .a a ⟨f.z, false, false, true⟩ 1 s (exec .scf s) ∧
    encode .ccf = [0x3F] ∧ SetsReg .a a ⟨f.z, false, false, !f.c⟩ 1 s (exec .ccf s)

/-- R606 and the source's property S4: DAA after ADD or SUB of two valid BCD operands gives the BCD result, with C the
decimal carry or borrow. -/
def Obligations.DecimalAdjustIsDecimal : Prop :=
  ∀ s : State, validBcd s.cpu.a → validBcd s.cpu.b →
    let x := bcdValue s.cpu.a
    let y := bcdValue s.cpu.b
    (∃ t u, exec .addAB s = .next t ∧ exec .daa t = .next u ∧ validBcd u.cpu.a ∧
      bcdValue u.cpu.a = (x + y) % 100 ∧ u.cpu.f.c = decide (100 ≤ x + y)) ∧
    (∃ t u, exec .subB s = .next t ∧ exec .daa t = .next u ∧ validBcd u.cpu.a ∧
      bcdValue u.cpu.a = (x + 100 - y) % 100 ∧ u.cpu.f.c = decide (x < y))

/-- R700, R611, R242: an undefined opcode records itself and its own address, puts PC back on it, and changes nothing
else; no other instruction touches the fatal state. That raising Fatal answers a next state is the model's choice
(DEDUCED, log 8), and so is that `exec` is given the state with PC past the byte (DESIGN CHOICE, log 11). -/
def Obligations.UndefinedOpcodesAreFatal : Prop :=
  (∀ x ∈ undefinedOps, ∀ s : State,
    encode x.2 = [x.1] ∧
    exec x.2 s = .next { s with cpu := { s.cpu with fatal := some (x.1, s.cpu.pc - 1), pc := s.cpu.pc - 1 } }) ∧
  (∀ (i : Instr) (s t : State), (∀ x ∈ undefinedOps, i ≠ x.2) → exec i s = .next t → t.cpu.fatal = s.cpu.fatal)

/-! ### The instruction set as a whole -/

/-- R16, R20, R240, R241: every defined instruction completes in every state, at the M-cycles of its row,
which it leaves in the model's own field `opCycles` (DESIGN CHOICE, log 11). -/
def Obligations.EveryInstructionCompletes : Prop :=
  ∀ (i : Instr) (s : State), (∀ x ∈ undefinedOps, i ≠ x.2) →
    ∃ t, exec i s = .next t ∧ t.opCycles = cyclesOf i s.cpu.f ∧ t.cpu.fatal = s.cpu.fatal

/-- R60, R56, R57, R58: which instructions can change the flags, IME, the EI latch and the run state. -/
def Obligations.WritersOfFlagsAndControl : Prop :=
  ∀ (i : Instr) (s t : State), exec i s = .next t →
    (writesFlags i = false → t.cpu.f = s.cpu.f) ∧
    (i ≠ .di → i ≠ .reti → t.cpu.ime = s.cpu.ime) ∧
    (i ≠ .di → i ≠ .ei → t.cpu.imePending = s.cpu.imePending) ∧
    (i ≠ .halt → (∀ x, i ≠ .stop x) → t.cpu.halt = s.cpu.halt)

/-- The memory frame of every instruction: a byte no store of the instruction reaches reads as before. The addresses
stored to are those of R133, computed from the state the instruction starts in; cartridge RAM cells are named by the
bank logic (R178, R182, R187); ROM and wave RAM are included. -/
def Obligations.MemoryFrame : Prop :=
  ∀ (i : Instr) (s t : State), exec i s = .next t →
    (∀ b, plainAddress b → (∀ a ∈ storedAt i s, cellOf a ≠ cellOf b) → rawRead t b = rawRead s b) ∧
    (∀ j, (∀ a ∈ storedAt i s, 0xA000 ≤ a.toNat → a.toNat < 0xC000 → s.cart.ramIndex a.toNat ≠ some j) →
      t.cart.ram.read j = s.cart.ram.read j) ∧
    (∀ j < 16, (∀ a ∈ storedAt i s, a.toNat ≠ 0xFF30 + j) → t.apu.ch3.ram.read j = s.apu.ch3.ram.read j) ∧
    t.cart.rom = s.cart.rom ∧ t.boot.rom = s.boot.rom ∧
    (NoneIn (storedAt i s) 0x0000 0x7FFF → NoneIn (storedAt i s) 0xFF50 0xFF50 →
      ∀ b : Word, b.toNat < 0x8000 → rawRead t b = rawRead s b)

/-- The device frame of every instruction: a device changes only through a store to one of its registers (R144, R147);
the parameters, the host's side and the master cycle count change through none. -/
def Obligations.DeviceFrame : Prop :=
  ∀ (i : Instr) (s t : State), exec i s = .next t →
    let at_ := storedAt i s
    (NoneIn at_ 0xFF00 0xFF00 → t.joypad = s.joypad) ∧ (NoneIn at_ 0xFF01 0xFF02 → t.serial = s.serial) ∧
    (NoneIn at_ 0xFF04 0xFF07 → t.timer = s.timer) ∧ (NoneIn at_ 0xFF10 0xFF3F → t.apu = s.apu) ∧
    (NoneIn at_ 0xFF40 0xFF45 → NoneIn at_ 0xFF47 0xFF4B → t.ppu = s.ppu) ∧
    (NoneIn at_ 0xFF46 0xFF46 → t.dma = s.dma) ∧ (NoneIn at_ 0xFF50 0xFF50 → t.boot = s.boot) ∧
    (NoneIn at_ 0xFF0F 0xFF0F → NoneIn at_ 0xFF40 0xFF45 → t.intr.iflag = s.intr.iflag) ∧
    (NoneIn at_ 0xFFFF 0xFFFF → t.intr.ie = s.intr.ie) ∧ (NoneIn at_ 0x0000 0x7FFF → t.cart.mbc = s.cart.mbc) ∧
    (NoneIn at_ 0xA000 0xBFFF → t.cart.dirty = s.cart.dirty) ∧
    t.params = s.params ∧ t.host = s.host ∧ t.masterCycles = s.masterCycles

/-! ### The step -/

/-- R800, R745: a step polls the joypad; then, running, it executes the instruction the bytes at PC decode to, with PC moved
past it, and, halted or stopped, it spends one M-cycle; what follows is `afterCpu`: the EI latch, the ticks, the
interrupt evaluation, the cycle count and the save flush, or the end of the step if a Fatal was raised (R700).
Three points are the model's own: that a step which raises Fatal answers a next state (DEDUCED, log 8); that `exec` is
given PC past the whole instruction and leaves its M-cycles in `opCycles` (DESIGN CHOICE, log 11); and that three bytes
are read at PC before decoding (DEDUCED, log 12). -/
def Obligations.StepRunsTheDecodedInstruction : Prop :=
  ∀ (s : State), s.cpu.fatal = none →
    let p := pollJoypad s
    let rest := fun r => afterCpu p.cpu.imePending p.host.framesDone r
    p.cpu = s.cpu ∧
    (∀ i tail, s.cpu.halt = .running →
      decode [busRead p s.cpu.pc, busRead p (s.cpu.pc + 1), busRead p (s.cpu.pc + 2)] = .ok (i, tail) →
      step s = rest (exec i { p with cpu := { s.cpu with pc := s.cpu.pc + BitVec.ofNat 16 (encode i).length } })) ∧
    (s.cpu.halt ≠ .running → step s = rest (.next { p with opCycles := 1 })) ∧
    (∀ t, t.cpu.fatal = none →
      rest (.next t) = .next
        (saveFlush p.host.framesDone
          (let e := evaluateInterrupts (tick t.opCycles (imeLatch p.cpu.imePending t))
           { e.1 with masterCycles := e.1.masterCycles + t.opCycles + e.2, opCycles := 0 }))) ∧
    (∀ t, t.cpu.fatal ≠ none → rest (.next t) = .next t)

/-- R700, R701: a step stops only in the fatal state, with the opcode and address recorded there; in any other state it
answers a next state. R611: executing an undefined opcode leaves a fatal state in which only the joypad poll, `fatal` and
PC's return have happened: no device advances. That the exception itself is a next state and the stop comes at the next
step is the model's choice (DEDUCED, log 8). -/
def Obligations.OnlyTheFatalStateStops : Prop :=
  (∀ (s : State) op addr, s.cpu.fatal = some (op, addr) → step s = .fault (.fatal op addr)) ∧
  (∀ s : State, s.cpu.fatal = none → ∃ t, step s = .next t) ∧
  (∀ s : State, s.cpu.fatal = none → s.cpu.halt = .running →
    (∃ x ∈ undefinedOps, busRead (pollJoypad s) s.cpu.pc = x.1) →
    step s = .next { pollJoypad s with cpu := { s.cpu with fatal := some (busRead (pollJoypad s) s.cpu.pc, s.cpu.pc) } })

/-- R742, R605: no interrupt is dispatched at the end of EI's own step, whatever is requested; the latch becomes IME after
the next instruction, unless that instruction cleared it. -/
def Obligations.EnableInterruptDelay : Prop :=
  (∀ s : State, s.cpu.fatal = none → s.cpu.halt = .running → s.cpu.ime = false → s.cpu.imePending = false →
    busRead (pollJoypad s) s.cpu.pc = 0xFB →
    ∃ t, step s = .next t ∧ t.cpu = { s.cpu with pc := s.cpu.pc + 1, imePending := true }) ∧
  (∀ s : State, imeLatch true { s with cpu := { s.cpu with imePending := true } } =
    { s with cpu := { s.cpu with ime := true, imePending := false } }) ∧
  (∀ (was : Bool) (s : State), was = false ∨ s.cpu.imePending = false → imeLatch was s = s)

/-- R740, R741, R743, R746: the evaluation. Nothing requested: nothing happens. Requested: the CPU runs again; with IME = 0
that is all; with IME = 1 the lowest requested interrupt k is taken: its IF bit, IME and the EI latch are cleared, PC is
pushed, PC becomes 0x0040 + 8·k, and five M-cycles are ticked. -/
def Obligations.InterruptEvaluation : Prop :=
  ∀ s : State,
    let req := fun k => s.intr.ie.getLsbD k && s.intr.iflag.getLsbD k
    ((∀ k < 5, req k = false) → evaluateInterrupts s = (s, 0)) ∧
    (∀ k < 5, req k = true → s.cpu.ime = false →
      evaluateInterrupts s = ({ s with cpu := { s.cpu with halt := .running } }, 0)) ∧
    (∀ k < 5, req k = true → (∀ j < k, req j = false) → s.cpu.ime = true →
      ∃ u, evaluateInterrupts s = (tick 5 u, 5) ∧
        u.cpu = { s.cpu with
          halt := .running, ime := false, imePending := false
          sp := s.cpu.sp - 2
          pc := 0x0040 + 8 * BitVec.ofNat 16 k } ∧
        ∃ flags : BitVec 5, flags.getLsbD k = false ∧ (∀ j < 5, j ≠ k → flags.getLsbD j = s.intr.iflag.getLsbD j) ∧
          u = { pushed { s with intr := { s.intr with iflag := flags } } (high s.cpu.pc) (low s.cpu.pc) with cpu := u.cpu })

/-- R801, R108: the master cycle counter grows by the instruction's M-cycles, or 1 while halted or stopped, plus what the
step's interrupt evaluation costs: 0, or the 5 of a dispatch, which leaves IME 0. A step that ends in the fatal state counts
nothing. That the model's own field `opCycles` is 0 after the step is its choice, no rule (DESIGN CHOICE, log 11). -/
def Obligations.MasterCycleAccounting : Prop :=
  ∀ s t : State, step s = .next t →
    let p := pollJoypad s
    (t.cpu.fatal ≠ none → t.masterCycles = s.masterCycles) ∧
    (t.cpu.fatal = none →
      ∃ r, runCpu p = .next r ∧
        let d := (evaluateInterrupts (tick r.opCycles (imeLatch p.cpu.imePending r))).2
        (d = 0 ∨ (d = 5 ∧ t.cpu.ime = false)) ∧
        t.masterCycles = s.masterCycles + (if s.cpu.halt = .running then cyclesOf (fetched p) s.cpu.f else 1) + d ∧
        t.opCycles = 0)

/-- R60, R721, R720, R740: the devices never change the CPU, never clear an IF bit, and never set the serial one; only the
joypad poll can set the joypad one, and it changes nothing of the CPU. -/
def Obligations.DevicesOnlyRequest : Prop :=
  ∀ (n : Nat) (s : State),
    (tick n s).cpu = s.cpu ∧ (tick n s).intr.ie = s.intr.ie ∧
    (∀ k < 5, s.intr.iflag.getLsbD k = true → (tick n s).intr.iflag.getLsbD k = true) ∧
    (tick n s).intr.iflag.getLsbD 3 = s.intr.iflag.getLsbD 3 ∧ (tick n s).intr.iflag.getLsbD 4 = s.intr.iflag.getLsbD 4 ∧
    (pollJoypad s).cpu = s.cpu ∧ (∀ k < 4, (pollJoypad s).intr.iflag.getLsbD k = s.intr.iflag.getLsbD k) ∧
    (s.intr.iflag.getLsbD 4 = true → (pollJoypad s).intr.iflag.getLsbD 4 = true)

/-- R137, R136, R109: no step changes a ROM image, what the header declared, or a parameter, and once the boot ROM is
unmapped nothing maps it again. -/
def Obligations.ImagesAndParametersNeverChange : Prop :=
  ∀ s t : State, step s = .next t →
    t.cart.rom = s.cart.rom ∧ t.cart.romBanks = s.cart.romBanks ∧ t.cart.ramSize = s.cart.ramSize ∧
    t.cart.hasRam = s.cart.hasRam ∧ t.cart.battery = s.cart.battery ∧ t.params = s.params ∧ t.boot.rom = s.boot.rom ∧
    t.host.title = s.host.title ∧ (s.boot.mapped = false → t.boot.mapped = false)

/-! ### Invariants -/

/-- R99, R102, R103, R900: the state after reset has every form below; the machine built from a zero 32 KiB image with
every parameter at its default is that state (the model's choice: log 1, 3 to 7, 11, 18, 20, 21). -/
def Obligations.ResetHasEveryForm : Prop :=
  State.reset.Live ∧ State.reset.MemForm ∧ State.reset.ppu.Form ∧ State.reset.apu.Form ∧ State.reset.DriverForm ∧
  construct (Setup.default { size := 32768, bytes := [] }) = .next State.reset

/-- Every step keeps every memory array canonical and within its size, the cartridge's registers legal (bank 0 is never
selected where the rules say 0 becomes 1), MBC2's cells nibbles, and the DMA index inside OAM (R99, R176, R180, R182,
R101). That an MBC2 cell is held as its nibble is the model's form (DEDUCED, log 25). -/
def Obligations.EveryStepKeepsMemoryForm : Prop :=
  ∀ s t : State, s.MemForm → step s = .next t → t.MemForm

/-- Every step keeps LY in 0..153, dot in 0..455, 172 ≤ mode 3 length ≤ 289, at most 10 sprites, the mode that follows
from (LY, dot) while the LCD is on, and a 160 × 144 frame (R102, R780, R784, R785, R787). -/
def Obligations.EveryStepKeepsPpuForm : Prop :=
  ∀ s t : State, s.ppu.Form → step s = .next t → t.ppu.Form

/-- Every step keeps the APU's promises: no power, no channel; no DAC, no channel; counters in range (R794, R796, R103).
Every step leaves no cycles over and a reload at most 4 T-cycles away (R100, R763, log 11). -/
def Obligations.EveryStepKeepsApuAndDriverForm : Prop :=
  (∀ s t : State, s.apu.Form → step s = .next t → t.apu.Form) ∧
  (∀ s t : State, s.DriverForm → step s = .next t → t.DriverForm)

/-! ### Reset -/

/-- R900, R72: the register file of boot skip and every value the I/O table gives for reading after it. -/
def Obligations.ResetValues : Prop :=
  State.reset.cpu =
    { a := 0x01, f := ⟨true, false, true, true⟩, b := 0x00, c := 0x13, d := 0x00, e := 0xD8, h := 0x01, l := 0x4D
      sp := 0xFFFE, pc := 0x0100, ime := false, imePending := false, halt := .running, fatal := none } ∧
  State.reset.cpu.f.toByte = 0xB0 ∧
  [0xFF00, 0xFF01, 0xFF02, 0xFF04, 0xFF05, 0xFF06, 0xFF07, 0xFF0F].map (busRead State.reset) =
    [0xCF, 0x00, 0x7E, 0xAB, 0x00, 0x00, 0xF8, 0xE1] ∧
  [0xFF10, 0xFF11, 0xFF12, 0xFF13, 0xFF14, 0xFF16, 0xFF17, 0xFF18, 0xFF19].map (busRead State.reset) =
    [0x80, 0xBF, 0xF3, 0xFF, 0xBF, 0x3F, 0x00, 0xFF, 0xBF] ∧
  [0xFF1A, 0xFF1B, 0xFF1C, 0xFF1D, 0xFF1E, 0xFF20, 0xFF21, 0xFF22, 0xFF23].map (busRead State.reset) =
    [0x7F, 0xFF, 0x9F, 0xFF, 0xBF, 0xFF, 0x00, 0x00, 0xBF] ∧
  [0xFF24, 0xFF25, 0xFF26, 0xFF40, 0xFF41, 0xFF42, 0xFF43, 0xFF44, 0xFF45].map (busRead State.reset) =
    [0x77, 0xF3, 0xF1, 0x91, 0x86, 0x00, 0x00, 0x00, 0x00] ∧
  [0xFF46, 0xFF47, 0xFF4A, 0xFF4B, 0xFF50, 0xFF03, 0xFF7F, 0xFFFF].map (busRead State.reset) =
    [0xFF, 0xFC, 0x00, 0x00, 0xFF, 0xFF, 0xFF, 0x00] ∧
  State.reset.dma.active = false ∧ State.reset.timer.reloadCountdown = 0 ∧ State.reset.ppu.dot = 0 ∧
  State.reset.ppu.wyLatch = false ∧ State.reset.ppu.windowLine = 0 ∧ State.reset.apu.fsStep = 0 ∧
  State.reset.boot.mapped = false ∧ State.reset.cart.dirty = false ∧ State.reset.masterCycles = 0

/-- R702, R171, R172: what is refused at construction. No machine exists for an unsupported type or size byte, an image
shorter than its header declares, or a boot ROM of another length than 256. Nothing else is refused; that a `ppu_init` or a
drawn frame out of range is not is the model's choice (DESIGN CHOICE, log 32). -/
def Obligations.ConstructionRefusals : Prop :=
  ∀ setup : Setup,
    let header := fun a => ((Memory.ofCells setup.rom.size setup.rom.bytes).read a).toNat
    let typeOk := header 0x147 ∈ [0x00, 0x01, 0x02, 0x03, 0x05, 0x06, 0x19, 0x1A, 0x1B, 0x1C, 0x1D, 0x1E]
    let sizesOk := header 0x148 ≤ 8 ∧ header 0x149 ≤ 5 ∧ 32768 * 2 ^ header 0x148 ≤ setup.rom.size
    let bootOk := ∀ b, setup.bootrom = some b → b.size = 256
    (¬(typeOk ∧ sizesOk) → construct setup = .refused .invalidRom) ∧
    (typeOk ∧ sizesOk → ¬bootOk → construct setup = .refused .bootromSize) ∧
    (typeOk ∧ sizesOk → bootOk → ∃ s, construct setup = .next s)

/-! ### The bus -/

/-- R150, R152, R153: the access locks. During a DMA a read outside HRAM gives 0xFF (a fetch from there is RST 38h) and HRAM
stays readable; VRAM in mode 3, and OAM in modes 2 and 3 or during a DMA, read 0xFF and drop writes.
R151: writes outside OAM during a DMA follow the policy. -/
def Obligations.AccessLocks : Prop :=
  (∀ (s : State) (a : Word) (v : Byte),
     let hram := 0xFF80 ≤ a.toNat ∧ a.toNat ≤ 0xFFFE
     (s.dma.active = true → ¬hram → busRead s a = 0xFF) ∧
     (s.dma.active = true → ¬hram → s.cpu.pc = a → fetched s = .rst38) ∧
     (s.dma.active = true → hram → busRead s a = s.hram.read (a.toNat - 0xFF80)) ∧
     (s.ppu.lcdOn = true → s.ppu.mode = .drawing → 0x8000 ≤ a.toNat → a.toNat < 0xA000 →
       busRead s a = 0xFF ∧ busWrite s a v = s) ∧
     ((s.ppu.lcdOn = true ∧ (s.ppu.mode = .oamScan ∨ s.ppu.mode = .drawing)) ∨ s.dma.active = true →
       0xFE00 ≤ a.toNat → a.toNat < 0xFEA0 → busRead s a = 0xFF ∧ busWrite s a v = s)) ∧
  (∀ (s : State) (a : Word) (v : Byte), s.dma.active = true → ¬(0xFE00 ≤ a.toNat ∧ a.toNat < 0xFEA0) →
     (s.params.dmaCpuWrites = .performed → ¬(0x8000 ≤ a.toNat ∧ a.toNat < 0xA000 ∧ s.ppu.lcdOn = true ∧ s.ppu.mode = .drawing) →
       busWrite s a v = rawWrite s a v) ∧
     (s.params.dmaCpuWrites = .droppedOutsideHram → ¬(0xFF80 ≤ a.toNat ∧ a.toNat ≤ 0xFFFE) → busWrite s a v = s))

/-- R138, R140, R141, R142, R145, R146: storage reads back what was written, and the echo is WRAM, where no lock applies.
The arrays are in canonical form, which every step keeps. -/
def Obligations.StorageReadsBack : Prop :=
  ∀ (s : State) (a b : Word) (v : Byte), s.MemForm → readLocked s a = false → writeLocked s a = false →
    readLocked s b = false → plainAddress a → plainAddress b →
    busRead (busWrite s a v) b = (if cellOf a = cellOf b then v else busRead s b)

/-- R70, R71, R74, R75, R77 to R79, R88, R90, R92, R94 to R96: a storage register reads its ones, and what was written in
the bits it keeps; DIV reads 0 after any write (S2); LY ignores writes; STAT keeps bits 6..3 of a write (R89, R91).
R143, R98, R175: the prohibited region, the I/O addresses without a register, and ROM and cartridge RAM without an
MBC: reads of the first two give 0xFF, writes to any of them change nothing. -/
def Obligations.RegistersReadBack : Prop :=
  (∀ (s : State) (v : Byte), s.dma.active = false →
     (∀ x ∈ storageRegisters, busRead (busWrite s x.1 v) x.1 = x.2.1 ||| (v &&& x.2.2)) ∧
     busRead (busWrite s 0xFF04 v) 0xFF04 = 0 ∧ busWrite s 0xFF44 v = s ∧
     busRead (busWrite s 0xFF41 v) 0xFF41 =
       0x80 ||| (v &&& 0x78) ||| (if s.ppu.ly = s.ppu.lyc then 0x04 else 0) ||| BitVec.ofNat 8 s.ppu.mode.code) ∧
  (∀ (s : State) (a : Word) (v : Byte),
     let unused := a.toNat = 0xFF03 ∨ (0xFF08 ≤ a.toNat ∧ a.toNat ≤ 0xFF0E) ∨ a.toNat = 0xFF15 ∨ a.toNat = 0xFF1F ∨
       (0xFF27 ≤ a.toNat ∧ a.toNat ≤ 0xFF2F) ∨ (0xFF4C ≤ a.toNat ∧ a.toNat ≤ 0xFF4F) ∨ (0xFF51 ≤ a.toNat ∧ a.toNat ≤ 0xFF7F)
     ((0xFEA0 ≤ a.toNat ∧ a.toNat ≤ 0xFEFF) ∨ unused → busRead s a = 0xFF ∧ busWrite s a v = s) ∧
     (s.cart.mbc = .none → a.toNat < 0x8000 → busWrite s a v = s) ∧
     (s.cart.mbc = .none → 0xA000 ≤ a.toNat → a.toNat < 0xC000 → busRead s a = 0xFF ∧ busWrite s a v = s))

/-- R86, R794, R85: an APU register reads what was last written OR its mask while the power is on, and ignores writes while
it is off; wave RAM is always writable; NR52 keeps bit 7 and reads the channels, and clearing it turns every channel off. -/
def Obligations.ApuRegistersReadBack : Prop :=
  ∀ (a : Apu) (v : Byte),
    (∀ x ∈ apuMasks, a.power = true → (a.write x.1 v).read x.1 = v ||| x.2) ∧
    (∀ x ∈ apuMasks, a.power = false → a.write x.1 v = a) ∧
    (∀ r, 0x30 ≤ r → r ≤ 0x3F → a.ch3.ram.wf = true → (a.write r v).read r = v) ∧
    (v.getLsbD 7 = false → (a.write 0x26 v).power = false ∧ (a.write 0x26 v).read 0x26 = 0x70 ∧
      ∀ x ∈ apuMasks, (a.write 0x26 v).read x.1 = a.read x.1) ∧
    (v.getLsbD 7 = true → a.power = false → (a.write 0x26 v) = { a with power := true, fsStep := 0 })

/-! ### Cartridges -/

/-- R176, R177, R178, R173: MBC1. -/
def Obligations.Mbc1Banking : Prop :=
  ∀ (c : Cart) (r : Mbc1) (a : Nat) (v : Byte), c.mbc = .mbc1 r →
    (a < 0x2000 → c.writeRom a v = { c with mbc := .mbc1 { r with ramEnable := decide (nibble v = 0xA) } }) ∧
    (0x2000 ≤ a → a < 0x4000 →
      c.writeRom a v = { c with mbc := .mbc1 { r with bank1 := if v.toNat % 32 = 0 then 1 else v.setWidth 5 } }) ∧
    (0x4000 ≤ a → a < 0x6000 → c.writeRom a v = { c with mbc := .mbc1 { r with bank2 := v.setWidth 2 } }) ∧
    (0x6000 ≤ a → a < 0x8000 → c.writeRom a v = { c with mbc := .mbc1 { r with mode := v.getLsbD 0 } }) ∧
    (a < 0x4000 → c.readRom a = romBankByte c (if r.mode then 32 * r.bank2.toNat else 0) a) ∧
    (0x4000 ≤ a → a < 0x8000 → c.readRom a = romBankByte c (32 * r.bank2.toNat + r.bank1.toNat) (a - 0x4000)) ∧
    (0xA000 ≤ a → a < 0xC000 →
      let cell := ramBankCell c (if r.mode then r.bank2.toNat else 0) (a - 0xA000)
      (c.hasRam = true → r.ramEnable = true →
        c.readRam a = c.ram.read cell ∧ c.writeRam a v = { c with ram := c.ram.write cell v, dirty := true }) ∧
      (c.hasRam = false ∨ r.ramEnable = false → c.readRam a = 0xFF ∧ c.writeRam a v = c))

/-- R180, R181, R182, R173: MBC2.
R184, R185, R187, R173: MBC5. -/
def Obligations.Mbc2AndMbc5Banking : Prop :=
  (∀ (c : Cart) (r : Mbc2) (a : Nat) (v : Byte), c.mbc = .mbc2 r →
     (a < 0x4000 → a.testBit 8 = false →
       c.writeRom a v = { c with mbc := .mbc2 { r with ramEnable := decide (nibble v = 0xA) } }) ∧
     (a < 0x4000 → a.testBit 8 = true →
       c.writeRom a v = { c with mbc := .mbc2 { r with romBank := if nibble v = 0 then 1 else v.setWidth 4 } }) ∧
     (0x4000 ≤ a → a < 0x8000 → c.writeRom a v = c) ∧
     (a < 0x4000 → c.readRom a = romBankByte c 0 a) ∧
     (0x4000 ≤ a → a < 0x8000 → c.readRom a = romBankByte c r.romBank.toNat (a - 0x4000)) ∧
     (0xA000 ≤ a → a < 0xC000 →
       (r.ramEnable = true →
         c.readRam a = 0xF0 ||| c.ram.read (a % 512) ∧
         c.writeRam a v = { c with ram := c.ram.write (a % 512) (v &&& 0x0F), dirty := true }) ∧
       (r.ramEnable = false → c.readRam a = 0xFF ∧ c.writeRam a v = c))) ∧
  (∀ (c : Cart) (r : Mbc5) (a : Nat) (v : Byte), c.mbc = .mbc5 r →
     (a < 0x2000 → c.writeRom a v = { c with mbc := .mbc5 { r with ramEnable := decide (nibble v = 0xA) } }) ∧
     (0x2000 ≤ a → a < 0x3000 →
       c.writeRom a v = { c with mbc := .mbc5 { r with romBank := r.romBank.extractLsb' 8 1 ++ v } }) ∧
     (0x3000 ≤ a → a < 0x4000 →
       c.writeRom a v = { c with mbc := .mbc5 { r with romBank := v.extractLsb' 0 1 ++ r.romBank.extractLsb' 0 8 } }) ∧
     (0x4000 ≤ a → a < 0x6000 → c.writeRom a v = { c with mbc := .mbc5 { r with ramBank := v.setWidth 4 } }) ∧
     (0x6000 ≤ a → a < 0x8000 → c.writeRom a v = c) ∧
     (a < 0x4000 → c.readRom a = romBankByte c 0 a) ∧
     (0x4000 ≤ a → a < 0x8000 → c.readRom a = romBankByte c r.romBank.toNat (a - 0x4000)) ∧
     (0xA000 ≤ a → a < 0xC000 →
       let cell := ramBankCell c r.ramBank.toNat (a - 0xA000)
       (c.hasRam = true → r.ramEnable = true →
         c.readRam a = c.ram.read cell ∧ c.writeRam a v = { c with ram := c.ram.write cell v, dirty := true }) ∧
       (c.hasRam = false ∨ r.ramEnable = false → c.readRam a = 0xFF ∧ c.writeRam a v = c)))

/-- R806, R190: a flush happens in the steps the policy names, hands over an image within the declared size, and clears the
dirty mark; otherwise nothing happens. Of the policies R806 states the default; the other settings, the free one among them,
are the model's form (DESIGN CHOICE, log 30), and so are the record of what the sink was given (log 23) and MBC2's cells as nibbles (DEDUCED, log 25). -/
def Obligations.SaveFlushing : Prop :=
  ∀ (frames : Nat) (s : State),
    let now := match s.params.saveFlush with
      | .onFrame => s.host.framesDone ≠ frames
      | .everyStep => True
      | .onlyAtTeardown => False
      | .free => Config.flushFree s.masterCycles s.host.framesDone s.host.saves = true
    (s.cart.dirty = true → now →
      ∃ image, saveFlush frames s =
          { s with
            cart := { s.cart with dirty := false }
            host := { s.host with saves := s.host.saves + 1, lastSave := some image } } ∧
        (s.MemForm → ∀ i < s.cart.ramSize,
          Memory.read image i = (if s.cart.mbc.nibbles then 0xF0 ||| s.cart.ram.read i else s.cart.ram.read i)) ∧
        (s.MemForm → ∀ x ∈ image, x.1 < s.cart.ramSize)) ∧
    (s.cart.dirty = false ∨ ¬now → saveFlush frames s = s)

/-! ### Timer and DMA -/

/-- R760: one timer T-cycle. The counter always advances. A pending reload counts down; when its countdown ends TIMA takes
TMA and interrupt 2 is requested. Then a falling edge moves TIMA; a TIMA at 0xFF becomes 0 and starts a reload. -/
def Obligations.TimerCycle : Prop :=
  ∀ s : State,
    let t := s.timer
    let u := (timerT s).timer
    let tima := if t.reloadCountdown = 1 then t.tma else t.tima
    u.counter = t.counter + 1 ∧ u.tma = t.tma ∧ u.tac = t.tac ∧
    (fallingEdge t = false → u.tima = tima ∧ u.reloadCountdown = t.reloadCountdown - 1) ∧
    (fallingEdge t = true → tima ≠ 0xFF → u.tima = tima + 1 ∧ u.reloadCountdown = t.reloadCountdown - 1) ∧
    (fallingEdge t = true → tima = 0xFF → u.tima = 0 ∧ u.reloadCountdown = 4) ∧
    timerT s = { s with
      timer := u
      intr := { s.intr with iflag := if t.reloadCountdown = 1 then s.intr.iflag ||| 0b00100 else s.intr.iflag } }

/-- R760: with the timer enabled and no overflow, TIMA rises by exactly one in every input period, wherever in the period
the counter starts.
R763: after an overflow, TIMA reads 0x00 for four T-cycles; at the fourth TMA is loaded and interrupt 2 requested. -/
def Obligations.TimaPeriodAndReload : Prop :=
  (∀ s : State, s.timer.tac.getLsbD 2 = true → s.timer.reloadCountdown = 0 → s.timer.tima ≠ 0xFF →
     let t := timerT^[timaPeriod s.timer.tac] s
     t.timer.tima = s.timer.tima + 1 ∧ t.timer.reloadCountdown = 0 ∧
       t.timer.counter = s.timer.counter + BitVec.ofNat 16 (timaPeriod s.timer.tac)) ∧
  (∀ s : State, s.timer.tac.getLsbD 2 = true → s.timer.reloadCountdown = 0 → s.timer.tima = 0xFF →
     fallingEdge s.timer = true →
     (∀ n < 4, ((timerT^[n + 1]) s).timer.tima = 0 ∧ ((timerT^[n + 1]) s).intr.iflag = s.intr.iflag) ∧
     ((timerT^[5]) s).timer.tima = s.timer.tma ∧ ((timerT^[5]) s).intr.iflag = s.intr.iflag ||| 0b00100)

/-- R761, R762, R763: CPU writes to the timer. DIV: any value clears the counter, and TIMA counts if the selected bit AND
TAC.2 was 1. TIMA: a pending reload is cancelled. TAC: only with `tac_write_glitch` does a fall of that signal count. -/
def Obligations.TimerWrites : Prop :=
  ∀ (s : State) (v : Byte), s.dma.active = false →
    let t := s.timer
    let level := fun tac : BitVec 3 => tac.getLsbD 2 && t.counter.getLsbD (selectedBit tac)
    let counted := fun u : Timer =>
      if t.tima = 0xFF then { u with tima := 0, reloadCountdown := 4 } else { u with tima := t.tima + 1 }
    let tac' : BitVec 3 := v.setWidth 3
    busWrite s 0xFF04 v =
      { s with timer := if level t.tac then counted { t with counter := 0 } else { t with counter := 0 } } ∧
    busWrite s 0xFF05 v = { s with timer := { t with tima := v, reloadCountdown := 0 } } ∧
    busWrite s 0xFF06 v = { s with timer := { t with tma := v } } ∧
    busWrite s 0xFF07 v =
      { s with timer :=
          if s.params.tacWriteGlitch && level t.tac && !level tac' then counted { t with tac := tac' } else { t with tac := tac' } }

/-- R750, R751: a write to 0xFF46 starts a DMA at index 0, restarting an active one; each M-cycle copies one byte past every
lock, and the 160th ends it. -/
def Obligations.DmaStartAndCycle : Prop :=
  ∀ (s : State) (v : Byte),
    (writeLocked s 0xFF46 = false →
      busWrite s 0xFF46 v = { s with dma := { reg := v, active := true, source := v, index := 0 } }) ∧
    (s.dma.active = false → dmaM s = s) ∧
    (s.dma.active = true →
      dmaM s = { s with
        oam := s.oam.write s.dma.index (rawRead s (BitVec.ofNat 16 (256 * s.dma.source.toNat + s.dma.index)))
        dma := { s.dma with index := s.dma.index + 1, active := decide (s.dma.index + 1 ≠ 160) } })

/-- R751, R750, R201: 160 M-cycles after it starts a DMA has copied the 160 bytes of its page to OAM and is over, whatever
the other devices do meanwhile (source pages below OAM). -/
def Obligations.DmaCopiesThePage : Prop :=
  ∀ s : State, s.oam.wf = true → s.dma.active = true → s.dma.index = 0 → s.dma.source.toNat < 0xFE →
    let t := tick 160 s
    t.dma.active = false ∧
      ∀ i < 160, t.oam.read i = rawRead s (BitVec.ofNat 16 (256 * s.dma.source.toNat + i))

/-! ### PPU -/

/-- R780, R804, S6: while the LCD stays on, a frame is 70,224 dots: from any position, that many dots later the position
is the same and exactly one frame has been completed (the count of frames is the model's record, log 23). -/
def Obligations.FramePeriod : Prop :=
  ∀ s : State, s.ppu.lcdOn = true → s.ppu.ly.toNat ≤ 153 → s.ppu.dot < 456 →
    let t := ppuDot^[70224] s
    t.ppu.ly = s.ppu.ly ∧ t.ppu.dot = s.ppu.dot ∧ t.host.framesDone = s.host.framesDone + 1

/-- R780, R781: one dot. The position advances; the mode follows it; VBlank is requested exactly when line 144 is entered;
with the LCD off nothing happens. -/
def Obligations.DotAndVblank : Prop :=
  ∀ s : State, s.ppu.Form →
    let p := s.ppu
    let q := (ppuDot s).ppu
    (p.lcdOn = false → ppuDot s = s) ∧
    (p.lcdOn = true →
      (p.dot < 455 → q.dot = p.dot + 1 ∧ q.ly = p.ly) ∧
      (p.dot = 455 → q.dot = 0 ∧ q.ly = (if p.ly = 153 then 0 else p.ly + 1)) ∧
      q.mode = modeOf q.ly q.dot q.mode3Len ∧
      (ppuDot s).intr.iflag.getLsbD 0 = (s.intr.iflag.getLsbD 0 || decide (q.ly = 144 ∧ q.dot = 0)))

/-- R783: the STAT interrupt. A source that is enabled, holds, and did not hold at the last update requests interrupt 1;
with the LCD off no source holds (D50); no other IF bit changes; the levels are remembered. -/
def Obligations.StatInterrupt : Prop :=
  ∀ s : State,
    let p := s.ppu
    let lyc := p.lcdOn && p.statSel.getLsbD 3 && p.ly == p.lyc
    let m2 := p.lcdOn && p.statSel.getLsbD 2 && p.mode == .oamScan
    let m1 := p.lcdOn && p.statSel.getLsbD 1 && p.mode == .vblank
    let m0 := p.lcdOn && p.statSel.getLsbD 0 && p.mode == .hblank
    let rises := (lyc && !p.prevLyc) || (m2 && !p.prevM2) || (m1 && !p.prevM1) || (m0 && !p.prevM0)
    (statUpdate s).ppu = { p with prevLyc := lyc, prevM2 := m2, prevM1 := m1, prevM0 := m0 } ∧
    (∀ k < 5, (statUpdate s).intr.iflag.getLsbD k = (s.intr.iflag.getLsbD k || (decide (k = 1) && rises))) ∧
    statUpdate (statUpdate s) = statUpdate s

/-- R785, R152, R153: turning the LCD off puts the PPU at LY 0, dot 0, mode 0, where it stays, and lifts the PPU's locks;
turning it on restarts at LY 0, dot 0, mode 2 with the window state reset. -/
def Obligations.LcdOffAndOn : Prop :=
  ∀ (s : State) (v : Byte), writeLocked s 0xFF40 = false →
    let t := busWrite s 0xFF40 v
    t.ppu.lcdc = v ∧
    (s.ppu.lcdOn = true → v.getLsbD 7 = false →
      t.ppu.ly = 0 ∧ t.ppu.dot = 0 ∧ t.ppu.mode = .hblank ∧ ppuDot t = t ∧
      (s.dma.active = false → ∀ a, readLocked t a = false ∧ writeLocked t a = false)) ∧
    (s.ppu.lcdOn = false → v.getLsbD 7 = true →
      t.ppu.ly = 0 ∧ t.ppu.dot = 0 ∧ t.ppu.mode = .oamScan ∧ t.ppu.windowLine = 0 ∧ t.ppu.wyLatch = false) ∧
    (s.ppu.lcdOn = v.getLsbD 7 → t.ppu.ly = s.ppu.ly ∧ t.ppu.dot = s.ppu.dot ∧ t.ppu.mode = s.ppu.mode)

/-- R787: the OAM scan takes, in OAM order, the first ten entries that overlap the line.
R789: the pixel's sprite is the first in order of X, then OAM index, among the line's sprites that cover the pixel with a
colour other than 0; there is none only if no sprite does, or sprites are off.
That the line's list holds copies of the entries is the model's choice (DESIGN CHOICE, log 20). -/
def Obligations.SpriteSelectionAndPriority : Prop :=
  (∀ (oam : Memory) (ly h : Nat),
     let overlaps := fun i => (oam.read (4 * i)).toNat ≤ ly + 16 ∧ ly + 16 < (oam.read (4 * i)).toNat + h
     let l := oamScan oam ly h
     l.length ≤ 10 ∧
     (∀ sp ∈ l, sp.index < 40 ∧ overlaps sp.index ∧ sp = oamEntry oam sp.index) ∧
     l.Pairwise (fun x y => x.index < y.index) ∧
     (∀ i < 40, overlaps i → oamEntry oam i ∈ l ∨ (l.length = 10 ∧ ∀ sp ∈ l, sp.index < i))) ∧
  (∀ (p : Ppu) (vram : Memory) (x : Nat),
     let shows := fun sp : Sprite => sp ∈ p.sprites ∧ sp.covers x = true ∧ p.spriteColour vram sp x ≠ 0
     (∀ sp c, p.topSprite vram x = some (sp, c) →
       p.lcdc.getLsbD 1 = true ∧ shows sp ∧ c = p.spriteColour vram sp x ∧
       ∀ q, shows q → sp.x.toNat < q.x.toNat ∨ (sp.x = q.x ∧ sp.index ≤ q.index)) ∧
     (p.topSprite vram x = none → p.lcdc.getLsbD 1 = false ∨ ∀ q, ¬shows q))

/-! ### APU and joypad -/

/-- R790, R791: the frame sequencer steps exactly on a falling edge of counter bit 12 with the power on; on the even steps
an enabled length counter counts, and a channel goes off when it reaches 0.
R798: with every channel's volume in 0..15, the mixed output stays in [-1, 1] (480 over 480) on both sides; a channel
whose DAC is off contributes nothing. The mix as an integer over 480 is the model's form (DESIGN CHOICE, log 23). -/
def Obligations.ApuSequencerAndMix : Prop :=
  (∀ (a : Apu) (bit12 : Bool),
     let b := a.sequencer bit12
     let steps := a.power = true ∧ a.fsPrev = true ∧ bit12 = false
     b.fsPrev = bit12 ∧ b.power = a.power ∧
     (¬steps → b = { a with fsPrev := bit12 }) ∧
     (steps → b.fsStep = (a.fsStep + 1) % 8 ∧
       (a.fsStep % 2 = 0 → a.ch2.nr4.getLsbD 6 = true → 0 < a.ch2.len →
         b.ch2.len = a.ch2.len - 1 ∧ b.ch2.on = (a.ch2.on && decide (a.ch2.len ≠ 1))) ∧
       (a.fsStep % 2 = 0 → a.ch3.nr34.getLsbD 6 = true → 0 < a.ch3.len →
         b.ch3.len = a.ch3.len - 1 ∧ b.ch3.on = (a.ch3.on && decide (a.ch3.len ≠ 1))) ∧
       (a.fsStep % 2 = 1 → b.ch2.len = a.ch2.len ∧ b.ch2.on = a.ch2.on ∧ b.ch3.len = a.ch3.len ∧ b.ch3.on = a.ch3.on))) ∧
  (∀ a : Apu, a.ch1.volume ≤ 15 → a.ch2.volume ≤ 15 → a.ch4.volume ≤ 15 →
     -480 ≤ a.mix.left ∧ a.mix.left ≤ 480 ∧ -480 ≤ a.mix.right ∧ a.mix.right ≤ 480 ∧
     (dacOn a.ch1.nr2 = false → dacOn a.ch2.nr2 = false → a.ch3.dacOn = false → dacOn a.ch4.nr42 = false →
       a.mix = { left := 0, right := 0 }))

/-- R770: P1 reads 1 in bits 7 and 6, its selects in bits 5 and 4, and 0 in a low bit exactly where a pressed button of a
selected row pulls it down.
R771, R772: a host event sets the button's state; it requests interrupt 4 exactly when a button not pressed before is
pressed in a selected row. A poll takes the events in order and empties the queue. -/
def Obligations.JoypadReadsAndEvents : Prop :=
  (∀ j : Joypad,
     let p1 := j.readP1
     p1.getLsbD 7 = true ∧ p1.getLsbD 6 = true ∧ p1.getLsbD 5 = j.selAction ∧ p1.getLsbD 4 = j.selDirection ∧
     (p1.getLsbD 0 = false ↔ (j.selDirection = false ∧ j.right = true) ∨ (j.selAction = false ∧ j.a = true)) ∧
     (p1.getLsbD 1 = false ↔ (j.selDirection = false ∧ j.left = true) ∨ (j.selAction = false ∧ j.b = true)) ∧
     (p1.getLsbD 2 = false ↔ (j.selDirection = false ∧ j.up = true) ∨ (j.selAction = false ∧ j.select = true)) ∧
     (p1.getLsbD 3 = false ↔ (j.selDirection = false ∧ j.down = true) ∨ (j.selAction = false ∧ j.start = true))) ∧
  ((∀ (s : State) (k : Button) (pressed : Bool),
     let t := joypadUpdate s ⟨k, pressed⟩
     let row := match k with
       | .right | .left | .up | .down => s.joypad.selDirection
       | .a | .b | .select | .start => s.joypad.selAction
     t.joypad.pressed k = pressed ∧ (∀ j, j ≠ k → t.joypad.pressed j = s.joypad.pressed j) ∧
     t.intr.iflag =
       (if pressed = true ∧ s.joypad.pressed k = false ∧ row = false then s.intr.iflag ||| 0b10000 else s.intr.iflag)) ∧
   (∀ s : State, s.host.events = [] → pollJoypad s = s) ∧
   (∀ (s : State) (ev : JoyEvent),
     pollJoypad (hostEvent s ev) = joypadUpdate (pollJoypad s) ev ∧ (pollJoypad s).host.events = []))
end

