-- ==== Sys2Proof/Laws/Apu.lean ====
section
/-! SUPPORT. What the APU's clocks can do to a channel's counters. -/

namespace Sys2Proof.Machine

/-- A length clock never lengthens, and never turns a channel on (R791). -/
theorem lengthClock_le (nr4 : Byte) (len : Nat) (on : Bool) :
    (lengthClock nr4 len on).1 ≤ len ∧ ((lengthClock nr4 len on).2 = true → on = true) := by
  unfold lengthClock
  split
  · exact ⟨Nat.sub_le _ _, fun h => (Bool.and_eq_true_iff.mp h).1⟩
  · exact ⟨Nat.le_refl _, id⟩

/-- An envelope clock keeps a volume in range (R793). -/
theorem envelopeClock_le (nr2 : Byte) (timer : Int) (volume : Nat) (h : volume ≤ 15) :
    (envelopeClock nr2 timer volume).2 ≤ 15 := by
  unfold envelopeClock
  dsimp only
  repeat' split
  all_goals (dsimp only; omega)

/-- The sweep never touches channels 2 to 4 or the power, and never turns channel 1 on (R795). -/
theorem Apu.clockSweep_fixed (a : Apu) :
    a.clockSweep.ch2 = a.ch2 ∧ a.clockSweep.ch3 = a.ch3 ∧ a.clockSweep.ch4 = a.ch4 ∧ a.clockSweep.power = a.power ∧
    a.clockSweep.ch1.len = a.ch1.len ∧ (a.clockSweep.ch1.on = true → a.ch1.on = true) := by
  unfold Apu.clockSweep
  dsimp only
  split
  · split
    · split
      · exact ⟨rfl, rfl, rfl, rfl, rfl, fun h => nomatch h⟩
      · split
        · exact ⟨rfl, rfl, rfl, rfl, rfl, fun h => (Bool.and_eq_true_iff.mp h).1⟩
        · exact ⟨rfl, rfl, rfl, rfl, rfl, id⟩
    · exact ⟨rfl, rfl, rfl, rfl, rfl, id⟩
  · exact ⟨rfl, rfl, rfl, rfl, rfl, id⟩

/-- A frequency T-cycle moves a channel's timer and position only (R797). -/
theorem Square.tickT_fixed (c : Square) :
    c.tickT.on = c.on ∧ c.tickT.len = c.len ∧ c.tickT.volume = c.volume ∧ c.tickT.nr1 = c.nr1 ∧ c.tickT.nr2 = c.nr2 ∧
    c.tickT.nr3 = c.nr3 ∧ c.tickT.nr4 = c.nr4 ∧ (c.dutyPos < 8 → c.tickT.dutyPos < 8) := by
  unfold Square.tickT
  split
  · exact ⟨rfl, rfl, rfl, rfl, rfl, rfl, rfl, fun _ => Nat.mod_lt _ (by decide)⟩
  · exact ⟨rfl, rfl, rfl, rfl, rfl, rfl, rfl, id⟩

theorem WaveChannel.tickT_fixed (c : WaveChannel) :
    c.tickT.on = c.on ∧ c.tickT.len = c.len ∧ c.tickT.dacOn = c.dacOn ∧ c.tickT.ram = c.ram ∧
    (c.pos < 32 → c.tickT.pos < 32) := by
  unfold WaveChannel.tickT
  split
  · exact ⟨rfl, rfl, rfl, rfl, fun _ => Nat.mod_lt _ (by decide)⟩
  · exact ⟨rfl, rfl, rfl, rfl, id⟩

theorem NoiseChannel.tickT_fixed (c : NoiseChannel) :
    c.tickT.on = c.on ∧ c.tickT.len = c.len ∧ c.tickT.volume = c.volume ∧ c.tickT.nr42 = c.nr42 := by
  unfold NoiseChannel.tickT
  split <;> exact ⟨rfl, rfl, rfl, rfl⟩

/-- The 11-bit period (R797). -/
theorem periodBits_le (nr3 nr4 : Byte) : periodBits nr3 nr4 ≤ 2047 := by
  have := nr3.isLt
  unfold periodBits
  omega

end Sys2Proof.Machine
end

