-- ==== Sys2Proof/Laws/Bits.lean ====
section
/-! SUPPORT. The byte-order and extension helpers in BitVec terms. -/

namespace Sys2Proof

theorem mkWord_toNat (hi lo : Byte) : (mkWord hi lo).toNat = hi.toNat * 256 + lo.toNat := by
  have h1 := hi.isLt
  have h2 := lo.isLt
  simp only [mkWord, BitVec.toNat_ofNat]
  omega

/-- `{hi, lo}` is concatenation. -/
theorem mkWord_eq_append (hi lo : Byte) : mkWord hi lo = hi ++ lo := by
  apply BitVec.eq_of_toNat_eq
  rw [mkWord_toNat, BitVec.toNat_append, Nat.shiftLeft_eq, Nat.mul_comm, ← Nat.two_pow_add_eq_or_of_lt lo.isLt]

theorem hiByte_toNat (v : Word) : (hiByte v).toNat = v.toNat / 256 := by
  have h := v.isLt
  simp only [hiByte, BitVec.toNat_ofNat]
  omega

theorem loByte_toNat (v : Word) : (loByte v).toNat = v.toNat % 256 := by
  simp [loByte]

theorem hiByte_eq_extract (v : Word) : hiByte v = v.extractLsb' 8 8 := by
  apply BitVec.eq_of_toNat_eq
  have h := v.isLt
  rw [hiByte_toNat, BitVec.extractLsb'_toNat, Nat.shiftRight_eq_div_pow]
  omega

theorem loByte_eq_extract (v : Word) : loByte v = v.extractLsb' 0 8 := by
  apply BitVec.eq_of_toNat_eq
  rw [loByte_toNat, BitVec.extractLsb'_toNat]
  simp

/-- A pair written as its two halves reads back whole. -/
@[simp] theorem mkWord_hiByte_loByte (v : Word) : mkWord (hiByte v) (loByte v) = v := by
  apply BitVec.eq_of_toNat_eq
  rw [mkWord_toNat, hiByte_toNat, loByte_toNat]
  omega

@[simp] theorem hiByte_mkWord (hi lo : Byte) : hiByte (mkWord hi lo) = hi := by
  apply BitVec.eq_of_toNat_eq
  have h := lo.isLt
  rw [hiByte_toNat, mkWord_toNat]
  omega

@[simp] theorem loByte_mkWord (hi lo : Byte) : loByte (mkWord hi lo) = lo := by
  apply BitVec.eq_of_toNat_eq
  have h := lo.isLt
  rw [loByte_toNat, mkWord_toNat]
  omega

theorem zext16_eq (v : Byte) : zext16 v = v.zeroExtend 16 := by
  apply BitVec.eq_of_toNat_eq
  simp [zext16]

theorem sext16_eq (v : Byte) : sext16 v = v.signExtend 16 := by
  revert v
  decide

/-- The bits of a flag byte. -/
theorem bitAt_getLsbD (c : Bool) (i j : Nat) (hi : i < 8) (hj : j < 8) :
    (bitAt c i).getLsbD j = (c && decide (i = j)) := by
  cases c
  · simp [bitAt]
  · interval_cases i <;> interval_cases j <;> rfl

end Sys2Proof
end

