-- ==== Sys2Proof/Laws/Mem.lean ====
section
/-! SUPPORT. Memory arrays: read over write, and every write keeps the canonical form and the bound. -/

namespace Sys2Proof.Machine

/-- A write leaves every other cell alone (in any list, canonical or not). -/
theorem Memory.read_write_ne (m : Memory) (a b : Nat) (v : Byte) (h : b ≠ a) : (m.write a v).read b = m.read b := by
  induction m with
  | nil =>
    simp only [Memory.write]
    split <;> simp [Memory.read, Ne.symm h]
  | cons c rest ih =>
    obtain ⟨k, x⟩ := c
    simp only [Memory.write]
    split
    · split <;> simp [Memory.read, Ne.symm h]
    · split
      · rename_i hk
        subst hk
        split <;> simp [Memory.read, Ne.symm h]
      · simp only [Memory.read, ih]

/-- A cell below every listed offset reads 0x00. -/
theorem Memory.read_of_above (m : Memory) (lo a : Nat) (hm : m.above lo = true) (h : a < lo) : m.read a = 0x00 := by
  induction m generalizing lo with
  | nil => rfl
  | cons c rest ih =>
    obtain ⟨k, x⟩ := c
    simp only [Memory.above, Bool.and_eq_true, decide_eq_true_eq] at hm
    have hka : k ≠ a := by omega
    simp only [Memory.read, if_neg hka]
    exact ih (k + 1) hm.2 (by omega)

theorem Memory.read_write_same_above (m : Memory) (lo a : Nat) (v : Byte) (hm : m.above lo = true) :
    (m.write a v).read a = v := by
  induction m generalizing lo with
  | nil =>
    simp only [Memory.write]
    split <;> simp_all [Memory.read]
  | cons c rest ih =>
    obtain ⟨k, x⟩ := c
    have hm' := hm
    simp only [Memory.above, Bool.and_eq_true, decide_eq_true_eq] at hm'
    simp only [Memory.write]
    split
    · rename_i hak
      split
      · rename_i hv
        subst hv
        have hka : k ≠ a := by omega
        simp only [Memory.read, if_neg hka]
        exact Memory.read_of_above rest (k + 1) a hm'.2 (by omega)
      · simp [Memory.read]
    · split
      · rename_i hak
        subst hak
        split
        · rename_i hv
          subst hv
          exact Memory.read_of_above rest (a + 1) a hm'.2 (by omega)
        · simp [Memory.read]
      · rename_i h1 h2
        have hka : k ≠ a := fun h => h2 h.symm
        simp only [Memory.read, if_neg hka]
        exact ih (k + 1) hm'.2

/-- A canonical array reads back what was written. -/
theorem Memory.read_write_same (m : Memory) (a : Nat) (v : Byte) (hm : m.wf = true) : (m.write a v).read a = v :=
  Memory.read_write_same_above m 0 a v hm

theorem Memory.above_mono (m : Memory) (lo lo' : Nat) (hm : m.above lo = true) (h : lo' ≤ lo) : m.above lo' = true := by
  cases m with
  | nil => rfl
  | cons c rest =>
    obtain ⟨k, x⟩ := c
    simp only [Memory.above, Bool.and_eq_true, decide_eq_true_eq] at hm ⊢
    exact ⟨⟨by omega, hm.1.2⟩, hm.2⟩

theorem Memory.above_write (m : Memory) (lo a : Nat) (v : Byte) (hm : m.above lo = true) (h : lo ≤ a) :
    (m.write a v).above lo = true := by
  induction m generalizing lo with
  | nil =>
    simp only [Memory.write]
    split <;> simp_all [Memory.above]
  | cons c rest ih =>
    obtain ⟨k, x⟩ := c
    have hm' := hm
    simp only [Memory.above, Bool.and_eq_true, decide_eq_true_eq] at hm'
    simp only [Memory.write]
    split
    · split
      · exact hm
      · rename_i hak hv
        simp only [Memory.above, Bool.and_eq_true, decide_eq_true_eq]
        exact ⟨⟨h, hv⟩, ⟨⟨by omega, hm'.1.2⟩, hm'.2⟩⟩
    · split
      · rename_i hak
        subst hak
        split
        · exact Memory.above_mono rest (a + 1) lo hm'.2 (by omega)
        · rename_i hv
          simp only [Memory.above, Bool.and_eq_true, decide_eq_true_eq]
          exact ⟨⟨h, hv⟩, hm'.2⟩
      · rename_i h1 h2
        simp only [Memory.above, Bool.and_eq_true, decide_eq_true_eq]
        exact ⟨hm'.1, ih (k + 1) hm'.2 (by omega)⟩

/-- Every write keeps the canonical form. -/
theorem Memory.wf_write (m : Memory) (a : Nat) (v : Byte) (hm : m.wf = true) : (m.write a v).wf = true :=
  Memory.above_write m 0 a v hm (Nat.zero_le a)

/-- Every cell of a write is a cell of the array or the cell written, which is not 0x00. -/
theorem Memory.mem_write (m : Memory) (a : Nat) (v : Byte) (c : Host.Cell) (h : c ∈ m.write a v) :
    c ∈ m ∨ (c = (a, v) ∧ v ≠ 0) := by
  induction m with
  | nil =>
    simp only [Memory.write] at h
    split at h
    · cases h
    · rename_i hv
      exact .inr ⟨List.mem_singleton.mp h, hv⟩
  | cons k rest ih =>
    obtain ⟨k, x⟩ := k
    simp only [Memory.write] at h
    split at h
    · split at h
      · exact .inl h
      · rename_i hv
        rcases List.mem_cons.mp h with h | h
        · exact .inr ⟨h, hv⟩
        · exact .inl h
    · split at h
      · split at h
        · exact .inl (List.mem_cons_of_mem _ h)
        · rename_i hv
          rcases List.mem_cons.mp h with h | h
          · exact .inr ⟨h, hv⟩
          · exact .inl (List.mem_cons_of_mem _ h)
      · rcases List.mem_cons.mp h with h | h
        · exact .inl (h ▸ List.mem_cons_self)
        · rcases ih h with h | h
          · exact .inl (List.mem_cons_of_mem _ h)
          · exact .inr h

/-- A write inside the array keeps every cell inside it. -/
theorem Memory.within_write (size : Nat) (m : Memory) (a : Nat) (v : Byte) (hm : m.within size = true) (h : a < size) :
    (m.write a v).within size = true := by
  simp only [Memory.within, List.all_eq_true, decide_eq_true_eq] at hm ⊢
  intro c hc
  rcases Memory.mem_write m a v c hc with hc | hc
  · exact hm c hc
  · rw [hc.1]
    exact h

end Sys2Proof.Machine
end

