-- ==== Sys2Proof/Laws/State.lean ====
section
/-! SUPPORT. What each update of a register leaves in every field: one lemma per field and update. -/

namespace Sys2Proof.Machine

/-! ### Registers and pairs of the CPU -/

@[simp] theorem Cpu.reg_setReg_same (c : Cpu) (r : Reg) (v : Byte) : (c.setReg r v).reg r = v := by cases r <;> rfl

theorem Cpu.reg_setReg_ne (c : Cpu) (r q : Reg) (v : Byte) (h : q ≠ r) : (c.setReg r v).reg q = c.reg q := by
  cases r <;> cases q <;> first | rfl | exact absurd rfl h

@[simp] theorem Cpu.setReg_f (c : Cpu) (r : Reg) (v : Byte) : (c.setReg r v).f = c.f := by cases r <;> rfl
@[simp] theorem Cpu.setReg_sp (c : Cpu) (r : Reg) (v : Byte) : (c.setReg r v).sp = c.sp := by cases r <;> rfl
@[simp] theorem Cpu.setReg_pc (c : Cpu) (r : Reg) (v : Byte) : (c.setReg r v).pc = c.pc := by cases r <;> rfl
@[simp] theorem Cpu.setReg_ime (c : Cpu) (r : Reg) (v : Byte) : (c.setReg r v).ime = c.ime := by cases r <;> rfl
@[simp] theorem Cpu.setReg_imePending (c : Cpu) (r : Reg) (v : Byte) : (c.setReg r v).imePending = c.imePending := by cases r <;> rfl
@[simp] theorem Cpu.setReg_halt (c : Cpu) (r : Reg) (v : Byte) : (c.setReg r v).halt = c.halt := by cases r <;> rfl
@[simp] theorem Cpu.setReg_fatal (c : Cpu) (r : Reg) (v : Byte) : (c.setReg r v).fatal = c.fatal := by cases r <;> rfl
@[simp] theorem Cpu.setPair_a (c : Cpu) (p : Pair) (v : Word) : (c.setPair p v).a = c.a := by cases p <;> rfl
@[simp] theorem Cpu.setPair_f (c : Cpu) (p : Pair) (v : Word) : (c.setPair p v).f = c.f := by cases p <;> rfl
@[simp] theorem Cpu.setPair_pc (c : Cpu) (p : Pair) (v : Word) : (c.setPair p v).pc = c.pc := by cases p <;> rfl
@[simp] theorem Cpu.setPair_ime (c : Cpu) (p : Pair) (v : Word) : (c.setPair p v).ime = c.ime := by cases p <;> rfl
@[simp] theorem Cpu.setPair_imePending (c : Cpu) (p : Pair) (v : Word) : (c.setPair p v).imePending = c.imePending := by cases p <;> rfl
@[simp] theorem Cpu.setPair_halt (c : Cpu) (p : Pair) (v : Word) : (c.setPair p v).halt = c.halt := by cases p <;> rfl
@[simp] theorem Cpu.setPair_fatal (c : Cpu) (p : Pair) (v : Word) : (c.setPair p v).fatal = c.fatal := by cases p <;> rfl
@[simp] theorem Cpu.setStackPair_sp (c : Cpu) (p : StackPair) (v : Word) : (c.setStackPair p v).sp = c.sp := by cases p <;> rfl
@[simp] theorem Cpu.setStackPair_pc (c : Cpu) (p : StackPair) (v : Word) : (c.setStackPair p v).pc = c.pc := by cases p <;> rfl
@[simp] theorem Cpu.setStackPair_ime (c : Cpu) (p : StackPair) (v : Word) : (c.setStackPair p v).ime = c.ime := by cases p <;> rfl
@[simp] theorem Cpu.setStackPair_imePending (c : Cpu) (p : StackPair) (v : Word) : (c.setStackPair p v).imePending = c.imePending := by cases p <;> rfl
@[simp] theorem Cpu.setStackPair_halt (c : Cpu) (p : StackPair) (v : Word) : (c.setStackPair p v).halt = c.halt := by cases p <;> rfl
@[simp] theorem Cpu.setStackPair_fatal (c : Cpu) (p : StackPair) (v : Word) : (c.setStackPair p v).fatal = c.fatal := by cases p <;> rfl

/-! ### The state -/

@[simp] theorem State.setReg_intr (s : State) (r : Reg) (v : Byte) : (s.setReg r v).intr = s.intr := rfl
@[simp] theorem State.setReg_timer (s : State) (r : Reg) (v : Byte) : (s.setReg r v).timer = s.timer := rfl
@[simp] theorem State.setReg_dma (s : State) (r : Reg) (v : Byte) : (s.setReg r v).dma = s.dma := rfl
@[simp] theorem State.setReg_ppu (s : State) (r : Reg) (v : Byte) : (s.setReg r v).ppu = s.ppu := rfl
@[simp] theorem State.setReg_apu (s : State) (r : Reg) (v : Byte) : (s.setReg r v).apu = s.apu := rfl
@[simp] theorem State.setReg_joypad (s : State) (r : Reg) (v : Byte) : (s.setReg r v).joypad = s.joypad := rfl
@[simp] theorem State.setReg_serial (s : State) (r : Reg) (v : Byte) : (s.setReg r v).serial = s.serial := rfl
@[simp] theorem State.setReg_cart (s : State) (r : Reg) (v : Byte) : (s.setReg r v).cart = s.cart := rfl
@[simp] theorem State.setReg_boot (s : State) (r : Reg) (v : Byte) : (s.setReg r v).boot = s.boot := rfl
@[simp] theorem State.setReg_vram (s : State) (r : Reg) (v : Byte) : (s.setReg r v).vram = s.vram := rfl
@[simp] theorem State.setReg_wram (s : State) (r : Reg) (v : Byte) : (s.setReg r v).wram = s.wram := rfl
@[simp] theorem State.setReg_oam (s : State) (r : Reg) (v : Byte) : (s.setReg r v).oam = s.oam := rfl
@[simp] theorem State.setReg_hram (s : State) (r : Reg) (v : Byte) : (s.setReg r v).hram = s.hram := rfl
@[simp] theorem State.setReg_masterCycles (s : State) (r : Reg) (v : Byte) : (s.setReg r v).masterCycles = s.masterCycles := rfl
@[simp] theorem State.setReg_opCycles (s : State) (r : Reg) (v : Byte) : (s.setReg r v).opCycles = s.opCycles := rfl
@[simp] theorem State.setReg_host (s : State) (r : Reg) (v : Byte) : (s.setReg r v).host = s.host := rfl
@[simp] theorem State.setReg_params (s : State) (r : Reg) (v : Byte) : (s.setReg r v).params = s.params := rfl
@[simp] theorem State.setReg_cpu (s : State) (r : Reg) (v : Byte) : (s.setReg r v).cpu = s.cpu.setReg r v := rfl
@[simp] theorem State.setPair_intr (s : State) (p : Pair) (v : Word) : (s.setPair p v).intr = s.intr := rfl
@[simp] theorem State.setPair_timer (s : State) (p : Pair) (v : Word) : (s.setPair p v).timer = s.timer := rfl
@[simp] theorem State.setPair_dma (s : State) (p : Pair) (v : Word) : (s.setPair p v).dma = s.dma := rfl
@[simp] theorem State.setPair_ppu (s : State) (p : Pair) (v : Word) : (s.setPair p v).ppu = s.ppu := rfl
@[simp] theorem State.setPair_apu (s : State) (p : Pair) (v : Word) : (s.setPair p v).apu = s.apu := rfl
@[simp] theorem State.setPair_joypad (s : State) (p : Pair) (v : Word) : (s.setPair p v).joypad = s.joypad := rfl
@[simp] theorem State.setPair_serial (s : State) (p : Pair) (v : Word) : (s.setPair p v).serial = s.serial := rfl
@[simp] theorem State.setPair_cart (s : State) (p : Pair) (v : Word) : (s.setPair p v).cart = s.cart := rfl
@[simp] theorem State.setPair_boot (s : State) (p : Pair) (v : Word) : (s.setPair p v).boot = s.boot := rfl
@[simp] theorem State.setPair_vram (s : State) (p : Pair) (v : Word) : (s.setPair p v).vram = s.vram := rfl
@[simp] theorem State.setPair_wram (s : State) (p : Pair) (v : Word) : (s.setPair p v).wram = s.wram := rfl
@[simp] theorem State.setPair_oam (s : State) (p : Pair) (v : Word) : (s.setPair p v).oam = s.oam := rfl
@[simp] theorem State.setPair_hram (s : State) (p : Pair) (v : Word) : (s.setPair p v).hram = s.hram := rfl
@[simp] theorem State.setPair_masterCycles (s : State) (p : Pair) (v : Word) : (s.setPair p v).masterCycles = s.masterCycles := rfl
@[simp] theorem State.setPair_opCycles (s : State) (p : Pair) (v : Word) : (s.setPair p v).opCycles = s.opCycles := rfl
@[simp] theorem State.setPair_host (s : State) (p : Pair) (v : Word) : (s.setPair p v).host = s.host := rfl
@[simp] theorem State.setPair_params (s : State) (p : Pair) (v : Word) : (s.setPair p v).params = s.params := rfl
@[simp] theorem State.setPair_cpu (s : State) (p : Pair) (v : Word) : (s.setPair p v).cpu = s.cpu.setPair p v := rfl
@[simp] theorem State.setStackPair_intr (s : State) (p : StackPair) (v : Word) : (s.setStackPair p v).intr = s.intr := rfl
@[simp] theorem State.setStackPair_timer (s : State) (p : StackPair) (v : Word) : (s.setStackPair p v).timer = s.timer := rfl
@[simp] theorem State.setStackPair_dma (s : State) (p : StackPair) (v : Word) : (s.setStackPair p v).dma = s.dma := rfl
@[simp] theorem State.setStackPair_ppu (s : State) (p : StackPair) (v : Word) : (s.setStackPair p v).ppu = s.ppu := rfl
@[simp] theorem State.setStackPair_apu (s : State) (p : StackPair) (v : Word) : (s.setStackPair p v).apu = s.apu := rfl
@[simp] theorem State.setStackPair_joypad (s : State) (p : StackPair) (v : Word) : (s.setStackPair p v).joypad = s.joypad := rfl
@[simp] theorem State.setStackPair_serial (s : State) (p : StackPair) (v : Word) : (s.setStackPair p v).serial = s.serial := rfl
@[simp] theorem State.setStackPair_cart (s : State) (p : StackPair) (v : Word) : (s.setStackPair p v).cart = s.cart := rfl
@[simp] theorem State.setStackPair_boot (s : State) (p : StackPair) (v : Word) : (s.setStackPair p v).boot = s.boot := rfl
@[simp] theorem State.setStackPair_vram (s : State) (p : StackPair) (v : Word) : (s.setStackPair p v).vram = s.vram := rfl
@[simp] theorem State.setStackPair_wram (s : State) (p : StackPair) (v : Word) : (s.setStackPair p v).wram = s.wram := rfl
@[simp] theorem State.setStackPair_oam (s : State) (p : StackPair) (v : Word) : (s.setStackPair p v).oam = s.oam := rfl
@[simp] theorem State.setStackPair_hram (s : State) (p : StackPair) (v : Word) : (s.setStackPair p v).hram = s.hram := rfl
@[simp] theorem State.setStackPair_masterCycles (s : State) (p : StackPair) (v : Word) : (s.setStackPair p v).masterCycles = s.masterCycles := rfl
@[simp] theorem State.setStackPair_opCycles (s : State) (p : StackPair) (v : Word) : (s.setStackPair p v).opCycles = s.opCycles := rfl
@[simp] theorem State.setStackPair_host (s : State) (p : StackPair) (v : Word) : (s.setStackPair p v).host = s.host := rfl
@[simp] theorem State.setStackPair_params (s : State) (p : StackPair) (v : Word) : (s.setStackPair p v).params = s.params := rfl
@[simp] theorem State.setStackPair_cpu (s : State) (p : StackPair) (v : Word) : (s.setStackPair p v).cpu = s.cpu.setStackPair p v := rfl
@[simp] theorem State.setFlags_intr (s : State) (f : Flags) : (s.setFlags f).intr = s.intr := rfl
@[simp] theorem State.setFlags_timer (s : State) (f : Flags) : (s.setFlags f).timer = s.timer := rfl
@[simp] theorem State.setFlags_dma (s : State) (f : Flags) : (s.setFlags f).dma = s.dma := rfl
@[simp] theorem State.setFlags_ppu (s : State) (f : Flags) : (s.setFlags f).ppu = s.ppu := rfl
@[simp] theorem State.setFlags_apu (s : State) (f : Flags) : (s.setFlags f).apu = s.apu := rfl
@[simp] theorem State.setFlags_joypad (s : State) (f : Flags) : (s.setFlags f).joypad = s.joypad := rfl
@[simp] theorem State.setFlags_serial (s : State) (f : Flags) : (s.setFlags f).serial = s.serial := rfl
@[simp] theorem State.setFlags_cart (s : State) (f : Flags) : (s.setFlags f).cart = s.cart := rfl
@[simp] theorem State.setFlags_boot (s : State) (f : Flags) : (s.setFlags f).boot = s.boot := rfl
@[simp] theorem State.setFlags_vram (s : State) (f : Flags) : (s.setFlags f).vram = s.vram := rfl
@[simp] theorem State.setFlags_wram (s : State) (f : Flags) : (s.setFlags f).wram = s.wram := rfl
@[simp] theorem State.setFlags_oam (s : State) (f : Flags) : (s.setFlags f).oam = s.oam := rfl
@[simp] theorem State.setFlags_hram (s : State) (f : Flags) : (s.setFlags f).hram = s.hram := rfl
@[simp] theorem State.setFlags_masterCycles (s : State) (f : Flags) : (s.setFlags f).masterCycles = s.masterCycles := rfl
@[simp] theorem State.setFlags_opCycles (s : State) (f : Flags) : (s.setFlags f).opCycles = s.opCycles := rfl
@[simp] theorem State.setFlags_host (s : State) (f : Flags) : (s.setFlags f).host = s.host := rfl
@[simp] theorem State.setFlags_params (s : State) (f : Flags) : (s.setFlags f).params = s.params := rfl
@[simp] theorem State.setFlags_cpu_a (s : State) (f : Flags) : (s.setFlags f).cpu.a = s.cpu.a := rfl
@[simp] theorem State.setFlags_cpu_f (s : State) (f : Flags) : (s.setFlags f).cpu.f = f := rfl
@[simp] theorem State.setFlags_cpu_b (s : State) (f : Flags) : (s.setFlags f).cpu.b = s.cpu.b := rfl
@[simp] theorem State.setFlags_cpu_c (s : State) (f : Flags) : (s.setFlags f).cpu.c = s.cpu.c := rfl
@[simp] theorem State.setFlags_cpu_d (s : State) (f : Flags) : (s.setFlags f).cpu.d = s.cpu.d := rfl
@[simp] theorem State.setFlags_cpu_e (s : State) (f : Flags) : (s.setFlags f).cpu.e = s.cpu.e := rfl
@[simp] theorem State.setFlags_cpu_h (s : State) (f : Flags) : (s.setFlags f).cpu.h = s.cpu.h := rfl
@[simp] theorem State.setFlags_cpu_l (s : State) (f : Flags) : (s.setFlags f).cpu.l = s.cpu.l := rfl
@[simp] theorem State.setFlags_cpu_sp (s : State) (f : Flags) : (s.setFlags f).cpu.sp = s.cpu.sp := rfl
@[simp] theorem State.setFlags_cpu_pc (s : State) (f : Flags) : (s.setFlags f).cpu.pc = s.cpu.pc := rfl
@[simp] theorem State.setFlags_cpu_ime (s : State) (f : Flags) : (s.setFlags f).cpu.ime = s.cpu.ime := rfl
@[simp] theorem State.setFlags_cpu_imePending (s : State) (f : Flags) : (s.setFlags f).cpu.imePending = s.cpu.imePending := rfl
@[simp] theorem State.setFlags_cpu_halt (s : State) (f : Flags) : (s.setFlags f).cpu.halt = s.cpu.halt := rfl
@[simp] theorem State.setFlags_cpu_fatal (s : State) (f : Flags) : (s.setFlags f).cpu.fatal = s.cpu.fatal := rfl
@[simp] theorem State.setSp_intr (s : State) (v : Word) : (s.setSp v).intr = s.intr := rfl
@[simp] theorem State.setSp_timer (s : State) (v : Word) : (s.setSp v).timer = s.timer := rfl
@[simp] theorem State.setSp_dma (s : State) (v : Word) : (s.setSp v).dma = s.dma := rfl
@[simp] theorem State.setSp_ppu (s : State) (v : Word) : (s.setSp v).ppu = s.ppu := rfl
@[simp] theorem State.setSp_apu (s : State) (v : Word) : (s.setSp v).apu = s.apu := rfl
@[simp] theorem State.setSp_joypad (s : State) (v : Word) : (s.setSp v).joypad = s.joypad := rfl
@[simp] theorem State.setSp_serial (s : State) (v : Word) : (s.setSp v).serial = s.serial := rfl
@[simp] theorem State.setSp_cart (s : State) (v : Word) : (s.setSp v).cart = s.cart := rfl
@[simp] theorem State.setSp_boot (s : State) (v : Word) : (s.setSp v).boot = s.boot := rfl
@[simp] theorem State.setSp_vram (s : State) (v : Word) : (s.setSp v).vram = s.vram := rfl
@[simp] theorem State.setSp_wram (s : State) (v : Word) : (s.setSp v).wram = s.wram := rfl
@[simp] theorem State.setSp_oam (s : State) (v : Word) : (s.setSp v).oam = s.oam := rfl
@[simp] theorem State.setSp_hram (s : State) (v : Word) : (s.setSp v).hram = s.hram := rfl
@[simp] theorem State.setSp_masterCycles (s : State) (v : Word) : (s.setSp v).masterCycles = s.masterCycles := rfl
@[simp] theorem State.setSp_opCycles (s : State) (v : Word) : (s.setSp v).opCycles = s.opCycles := rfl
@[simp] theorem State.setSp_host (s : State) (v : Word) : (s.setSp v).host = s.host := rfl
@[simp] theorem State.setSp_params (s : State) (v : Word) : (s.setSp v).params = s.params := rfl
@[simp] theorem State.setSp_cpu_a (s : State) (v : Word) : (s.setSp v).cpu.a = s.cpu.a := rfl
@[simp] theorem State.setSp_cpu_f (s : State) (v : Word) : (s.setSp v).cpu.f = s.cpu.f := rfl
@[simp] theorem State.setSp_cpu_b (s : State) (v : Word) : (s.setSp v).cpu.b = s.cpu.b := rfl
@[simp] theorem State.setSp_cpu_c (s : State) (v : Word) : (s.setSp v).cpu.c = s.cpu.c := rfl
@[simp] theorem State.setSp_cpu_d (s : State) (v : Word) : (s.setSp v).cpu.d = s.cpu.d := rfl
@[simp] theorem State.setSp_cpu_e (s : State) (v : Word) : (s.setSp v).cpu.e = s.cpu.e := rfl
@[simp] theorem State.setSp_cpu_h (s : State) (v : Word) : (s.setSp v).cpu.h = s.cpu.h := rfl
@[simp] theorem State.setSp_cpu_l (s : State) (v : Word) : (s.setSp v).cpu.l = s.cpu.l := rfl
@[simp] theorem State.setSp_cpu_sp (s : State) (v : Word) : (s.setSp v).cpu.sp = v := rfl
@[simp] theorem State.setSp_cpu_pc (s : State) (v : Word) : (s.setSp v).cpu.pc = s.cpu.pc := rfl
@[simp] theorem State.setSp_cpu_ime (s : State) (v : Word) : (s.setSp v).cpu.ime = s.cpu.ime := rfl
@[simp] theorem State.setSp_cpu_imePending (s : State) (v : Word) : (s.setSp v).cpu.imePending = s.cpu.imePending := rfl
@[simp] theorem State.setSp_cpu_halt (s : State) (v : Word) : (s.setSp v).cpu.halt = s.cpu.halt := rfl
@[simp] theorem State.setSp_cpu_fatal (s : State) (v : Word) : (s.setSp v).cpu.fatal = s.cpu.fatal := rfl
@[simp] theorem State.setPc_intr (s : State) (v : Word) : (s.setPc v).intr = s.intr := rfl
@[simp] theorem State.setPc_timer (s : State) (v : Word) : (s.setPc v).timer = s.timer := rfl
@[simp] theorem State.setPc_dma (s : State) (v : Word) : (s.setPc v).dma = s.dma := rfl
@[simp] theorem State.setPc_ppu (s : State) (v : Word) : (s.setPc v).ppu = s.ppu := rfl
@[simp] theorem State.setPc_apu (s : State) (v : Word) : (s.setPc v).apu = s.apu := rfl
@[simp] theorem State.setPc_joypad (s : State) (v : Word) : (s.setPc v).joypad = s.joypad := rfl
@[simp] theorem State.setPc_serial (s : State) (v : Word) : (s.setPc v).serial = s.serial := rfl
@[simp] theorem State.setPc_cart (s : State) (v : Word) : (s.setPc v).cart = s.cart := rfl
@[simp] theorem State.setPc_boot (s : State) (v : Word) : (s.setPc v).boot = s.boot := rfl
@[simp] theorem State.setPc_vram (s : State) (v : Word) : (s.setPc v).vram = s.vram := rfl
@[simp] theorem State.setPc_wram (s : State) (v : Word) : (s.setPc v).wram = s.wram := rfl
@[simp] theorem State.setPc_oam (s : State) (v : Word) : (s.setPc v).oam = s.oam := rfl
@[simp] theorem State.setPc_hram (s : State) (v : Word) : (s.setPc v).hram = s.hram := rfl
@[simp] theorem State.setPc_masterCycles (s : State) (v : Word) : (s.setPc v).masterCycles = s.masterCycles := rfl
@[simp] theorem State.setPc_opCycles (s : State) (v : Word) : (s.setPc v).opCycles = s.opCycles := rfl
@[simp] theorem State.setPc_host (s : State) (v : Word) : (s.setPc v).host = s.host := rfl
@[simp] theorem State.setPc_params (s : State) (v : Word) : (s.setPc v).params = s.params := rfl
@[simp] theorem State.setPc_cpu_a (s : State) (v : Word) : (s.setPc v).cpu.a = s.cpu.a := rfl
@[simp] theorem State.setPc_cpu_f (s : State) (v : Word) : (s.setPc v).cpu.f = s.cpu.f := rfl
@[simp] theorem State.setPc_cpu_b (s : State) (v : Word) : (s.setPc v).cpu.b = s.cpu.b := rfl
@[simp] theorem State.setPc_cpu_c (s : State) (v : Word) : (s.setPc v).cpu.c = s.cpu.c := rfl
@[simp] theorem State.setPc_cpu_d (s : State) (v : Word) : (s.setPc v).cpu.d = s.cpu.d := rfl
@[simp] theorem State.setPc_cpu_e (s : State) (v : Word) : (s.setPc v).cpu.e = s.cpu.e := rfl
@[simp] theorem State.setPc_cpu_h (s : State) (v : Word) : (s.setPc v).cpu.h = s.cpu.h := rfl
@[simp] theorem State.setPc_cpu_l (s : State) (v : Word) : (s.setPc v).cpu.l = s.cpu.l := rfl
@[simp] theorem State.setPc_cpu_sp (s : State) (v : Word) : (s.setPc v).cpu.sp = s.cpu.sp := rfl
@[simp] theorem State.setPc_cpu_pc (s : State) (v : Word) : (s.setPc v).cpu.pc = v := rfl
@[simp] theorem State.setPc_cpu_ime (s : State) (v : Word) : (s.setPc v).cpu.ime = s.cpu.ime := rfl
@[simp] theorem State.setPc_cpu_imePending (s : State) (v : Word) : (s.setPc v).cpu.imePending = s.cpu.imePending := rfl
@[simp] theorem State.setPc_cpu_halt (s : State) (v : Word) : (s.setPc v).cpu.halt = s.cpu.halt := rfl
@[simp] theorem State.setPc_cpu_fatal (s : State) (v : Word) : (s.setPc v).cpu.fatal = s.cpu.fatal := rfl
@[simp] theorem State.setIme_intr (s : State) (v : Bool) : (s.setIme v).intr = s.intr := rfl
@[simp] theorem State.setIme_timer (s : State) (v : Bool) : (s.setIme v).timer = s.timer := rfl
@[simp] theorem State.setIme_dma (s : State) (v : Bool) : (s.setIme v).dma = s.dma := rfl
@[simp] theorem State.setIme_ppu (s : State) (v : Bool) : (s.setIme v).ppu = s.ppu := rfl
@[simp] theorem State.setIme_apu (s : State) (v : Bool) : (s.setIme v).apu = s.apu := rfl
@[simp] theorem State.setIme_joypad (s : State) (v : Bool) : (s.setIme v).joypad = s.joypad := rfl
@[simp] theorem State.setIme_serial (s : State) (v : Bool) : (s.setIme v).serial = s.serial := rfl
@[simp] theorem State.setIme_cart (s : State) (v : Bool) : (s.setIme v).cart = s.cart := rfl
@[simp] theorem State.setIme_boot (s : State) (v : Bool) : (s.setIme v).boot = s.boot := rfl
@[simp] theorem State.setIme_vram (s : State) (v : Bool) : (s.setIme v).vram = s.vram := rfl
@[simp] theorem State.setIme_wram (s : State) (v : Bool) : (s.setIme v).wram = s.wram := rfl
@[simp] theorem State.setIme_oam (s : State) (v : Bool) : (s.setIme v).oam = s.oam := rfl
@[simp] theorem State.setIme_hram (s : State) (v : Bool) : (s.setIme v).hram = s.hram := rfl
@[simp] theorem State.setIme_masterCycles (s : State) (v : Bool) : (s.setIme v).masterCycles = s.masterCycles := rfl
@[simp] theorem State.setIme_opCycles (s : State) (v : Bool) : (s.setIme v).opCycles = s.opCycles := rfl
@[simp] theorem State.setIme_host (s : State) (v : Bool) : (s.setIme v).host = s.host := rfl
@[simp] theorem State.setIme_params (s : State) (v : Bool) : (s.setIme v).params = s.params := rfl
@[simp] theorem State.setIme_cpu_a (s : State) (v : Bool) : (s.setIme v).cpu.a = s.cpu.a := rfl
@[simp] theorem State.setIme_cpu_f (s : State) (v : Bool) : (s.setIme v).cpu.f = s.cpu.f := rfl
@[simp] theorem State.setIme_cpu_b (s : State) (v : Bool) : (s.setIme v).cpu.b = s.cpu.b := rfl
@[simp] theorem State.setIme_cpu_c (s : State) (v : Bool) : (s.setIme v).cpu.c = s.cpu.c := rfl
@[simp] theorem State.setIme_cpu_d (s : State) (v : Bool) : (s.setIme v).cpu.d = s.cpu.d := rfl
@[simp] theorem State.setIme_cpu_e (s : State) (v : Bool) : (s.setIme v).cpu.e = s.cpu.e := rfl
@[simp] theorem State.setIme_cpu_h (s : State) (v : Bool) : (s.setIme v).cpu.h = s.cpu.h := rfl
@[simp] theorem State.setIme_cpu_l (s : State) (v : Bool) : (s.setIme v).cpu.l = s.cpu.l := rfl
@[simp] theorem State.setIme_cpu_sp (s : State) (v : Bool) : (s.setIme v).cpu.sp = s.cpu.sp := rfl
@[simp] theorem State.setIme_cpu_pc (s : State) (v : Bool) : (s.setIme v).cpu.pc = s.cpu.pc := rfl
@[simp] theorem State.setIme_cpu_ime (s : State) (v : Bool) : (s.setIme v).cpu.ime = v := rfl
@[simp] theorem State.setIme_cpu_imePending (s : State) (v : Bool) : (s.setIme v).cpu.imePending = s.cpu.imePending := rfl
@[simp] theorem State.setIme_cpu_halt (s : State) (v : Bool) : (s.setIme v).cpu.halt = s.cpu.halt := rfl
@[simp] theorem State.setIme_cpu_fatal (s : State) (v : Bool) : (s.setIme v).cpu.fatal = s.cpu.fatal := rfl
@[simp] theorem State.setImePending_intr (s : State) (v : Bool) : (s.setImePending v).intr = s.intr := rfl
@[simp] theorem State.setImePending_timer (s : State) (v : Bool) : (s.setImePending v).timer = s.timer := rfl
@[simp] theorem State.setImePending_dma (s : State) (v : Bool) : (s.setImePending v).dma = s.dma := rfl
@[simp] theorem State.setImePending_ppu (s : State) (v : Bool) : (s.setImePending v).ppu = s.ppu := rfl
@[simp] theorem State.setImePending_apu (s : State) (v : Bool) : (s.setImePending v).apu = s.apu := rfl
@[simp] theorem State.setImePending_joypad (s : State) (v : Bool) : (s.setImePending v).joypad = s.joypad := rfl
@[simp] theorem State.setImePending_serial (s : State) (v : Bool) : (s.setImePending v).serial = s.serial := rfl
@[simp] theorem State.setImePending_cart (s : State) (v : Bool) : (s.setImePending v).cart = s.cart := rfl
@[simp] theorem State.setImePending_boot (s : State) (v : Bool) : (s.setImePending v).boot = s.boot := rfl
@[simp] theorem State.setImePending_vram (s : State) (v : Bool) : (s.setImePending v).vram = s.vram := rfl
@[simp] theorem State.setImePending_wram (s : State) (v : Bool) : (s.setImePending v).wram = s.wram := rfl
@[simp] theorem State.setImePending_oam (s : State) (v : Bool) : (s.setImePending v).oam = s.oam := rfl
@[simp] theorem State.setImePending_hram (s : State) (v : Bool) : (s.setImePending v).hram = s.hram := rfl
@[simp] theorem State.setImePending_masterCycles (s : State) (v : Bool) : (s.setImePending v).masterCycles = s.masterCycles := rfl
@[simp] theorem State.setImePending_opCycles (s : State) (v : Bool) : (s.setImePending v).opCycles = s.opCycles := rfl
@[simp] theorem State.setImePending_host (s : State) (v : Bool) : (s.setImePending v).host = s.host := rfl
@[simp] theorem State.setImePending_params (s : State) (v : Bool) : (s.setImePending v).params = s.params := rfl
@[simp] theorem State.setImePending_cpu_a (s : State) (v : Bool) : (s.setImePending v).cpu.a = s.cpu.a := rfl
@[simp] theorem State.setImePending_cpu_f (s : State) (v : Bool) : (s.setImePending v).cpu.f = s.cpu.f := rfl
@[simp] theorem State.setImePending_cpu_b (s : State) (v : Bool) : (s.setImePending v).cpu.b = s.cpu.b := rfl
@[simp] theorem State.setImePending_cpu_c (s : State) (v : Bool) : (s.setImePending v).cpu.c = s.cpu.c := rfl
@[simp] theorem State.setImePending_cpu_d (s : State) (v : Bool) : (s.setImePending v).cpu.d = s.cpu.d := rfl
@[simp] theorem State.setImePending_cpu_e (s : State) (v : Bool) : (s.setImePending v).cpu.e = s.cpu.e := rfl
@[simp] theorem State.setImePending_cpu_h (s : State) (v : Bool) : (s.setImePending v).cpu.h = s.cpu.h := rfl
@[simp] theorem State.setImePending_cpu_l (s : State) (v : Bool) : (s.setImePending v).cpu.l = s.cpu.l := rfl
@[simp] theorem State.setImePending_cpu_sp (s : State) (v : Bool) : (s.setImePending v).cpu.sp = s.cpu.sp := rfl
@[simp] theorem State.setImePending_cpu_pc (s : State) (v : Bool) : (s.setImePending v).cpu.pc = s.cpu.pc := rfl
@[simp] theorem State.setImePending_cpu_ime (s : State) (v : Bool) : (s.setImePending v).cpu.ime = s.cpu.ime := rfl
@[simp] theorem State.setImePending_cpu_imePending (s : State) (v : Bool) : (s.setImePending v).cpu.imePending = v := rfl
@[simp] theorem State.setImePending_cpu_halt (s : State) (v : Bool) : (s.setImePending v).cpu.halt = s.cpu.halt := rfl
@[simp] theorem State.setImePending_cpu_fatal (s : State) (v : Bool) : (s.setImePending v).cpu.fatal = s.cpu.fatal := rfl
@[simp] theorem State.setHalt_intr (s : State) (v : RunState) : (s.setHalt v).intr = s.intr := rfl
@[simp] theorem State.setHalt_timer (s : State) (v : RunState) : (s.setHalt v).timer = s.timer := rfl
@[simp] theorem State.setHalt_dma (s : State) (v : RunState) : (s.setHalt v).dma = s.dma := rfl
@[simp] theorem State.setHalt_ppu (s : State) (v : RunState) : (s.setHalt v).ppu = s.ppu := rfl
@[simp] theorem State.setHalt_apu (s : State) (v : RunState) : (s.setHalt v).apu = s.apu := rfl
@[simp] theorem State.setHalt_joypad (s : State) (v : RunState) : (s.setHalt v).joypad = s.joypad := rfl
@[simp] theorem State.setHalt_serial (s : State) (v : RunState) : (s.setHalt v).serial = s.serial := rfl
@[simp] theorem State.setHalt_cart (s : State) (v : RunState) : (s.setHalt v).cart = s.cart := rfl
@[simp] theorem State.setHalt_boot (s : State) (v : RunState) : (s.setHalt v).boot = s.boot := rfl
@[simp] theorem State.setHalt_vram (s : State) (v : RunState) : (s.setHalt v).vram = s.vram := rfl
@[simp] theorem State.setHalt_wram (s : State) (v : RunState) : (s.setHalt v).wram = s.wram := rfl
@[simp] theorem State.setHalt_oam (s : State) (v : RunState) : (s.setHalt v).oam = s.oam := rfl
@[simp] theorem State.setHalt_hram (s : State) (v : RunState) : (s.setHalt v).hram = s.hram := rfl
@[simp] theorem State.setHalt_masterCycles (s : State) (v : RunState) : (s.setHalt v).masterCycles = s.masterCycles := rfl
@[simp] theorem State.setHalt_opCycles (s : State) (v : RunState) : (s.setHalt v).opCycles = s.opCycles := rfl
@[simp] theorem State.setHalt_host (s : State) (v : RunState) : (s.setHalt v).host = s.host := rfl
@[simp] theorem State.setHalt_params (s : State) (v : RunState) : (s.setHalt v).params = s.params := rfl
@[simp] theorem State.setHalt_cpu_a (s : State) (v : RunState) : (s.setHalt v).cpu.a = s.cpu.a := rfl
@[simp] theorem State.setHalt_cpu_f (s : State) (v : RunState) : (s.setHalt v).cpu.f = s.cpu.f := rfl
@[simp] theorem State.setHalt_cpu_b (s : State) (v : RunState) : (s.setHalt v).cpu.b = s.cpu.b := rfl
@[simp] theorem State.setHalt_cpu_c (s : State) (v : RunState) : (s.setHalt v).cpu.c = s.cpu.c := rfl
@[simp] theorem State.setHalt_cpu_d (s : State) (v : RunState) : (s.setHalt v).cpu.d = s.cpu.d := rfl
@[simp] theorem State.setHalt_cpu_e (s : State) (v : RunState) : (s.setHalt v).cpu.e = s.cpu.e := rfl
@[simp] theorem State.setHalt_cpu_h (s : State) (v : RunState) : (s.setHalt v).cpu.h = s.cpu.h := rfl
@[simp] theorem State.setHalt_cpu_l (s : State) (v : RunState) : (s.setHalt v).cpu.l = s.cpu.l := rfl
@[simp] theorem State.setHalt_cpu_sp (s : State) (v : RunState) : (s.setHalt v).cpu.sp = s.cpu.sp := rfl
@[simp] theorem State.setHalt_cpu_pc (s : State) (v : RunState) : (s.setHalt v).cpu.pc = s.cpu.pc := rfl
@[simp] theorem State.setHalt_cpu_ime (s : State) (v : RunState) : (s.setHalt v).cpu.ime = s.cpu.ime := rfl
@[simp] theorem State.setHalt_cpu_imePending (s : State) (v : RunState) : (s.setHalt v).cpu.imePending = s.cpu.imePending := rfl
@[simp] theorem State.setHalt_cpu_halt (s : State) (v : RunState) : (s.setHalt v).cpu.halt = v := rfl
@[simp] theorem State.setHalt_cpu_fatal (s : State) (v : RunState) : (s.setHalt v).cpu.fatal = s.cpu.fatal := rfl
@[simp] theorem State.spend_intr (s : State) (n : Nat) : (s.spend n).intr = s.intr := rfl
@[simp] theorem State.spend_timer (s : State) (n : Nat) : (s.spend n).timer = s.timer := rfl
@[simp] theorem State.spend_dma (s : State) (n : Nat) : (s.spend n).dma = s.dma := rfl
@[simp] theorem State.spend_ppu (s : State) (n : Nat) : (s.spend n).ppu = s.ppu := rfl
@[simp] theorem State.spend_apu (s : State) (n : Nat) : (s.spend n).apu = s.apu := rfl
@[simp] theorem State.spend_joypad (s : State) (n : Nat) : (s.spend n).joypad = s.joypad := rfl
@[simp] theorem State.spend_serial (s : State) (n : Nat) : (s.spend n).serial = s.serial := rfl
@[simp] theorem State.spend_cart (s : State) (n : Nat) : (s.spend n).cart = s.cart := rfl
@[simp] theorem State.spend_boot (s : State) (n : Nat) : (s.spend n).boot = s.boot := rfl
@[simp] theorem State.spend_vram (s : State) (n : Nat) : (s.spend n).vram = s.vram := rfl
@[simp] theorem State.spend_wram (s : State) (n : Nat) : (s.spend n).wram = s.wram := rfl
@[simp] theorem State.spend_oam (s : State) (n : Nat) : (s.spend n).oam = s.oam := rfl
@[simp] theorem State.spend_hram (s : State) (n : Nat) : (s.spend n).hram = s.hram := rfl
@[simp] theorem State.spend_masterCycles (s : State) (n : Nat) : (s.spend n).masterCycles = s.masterCycles := rfl
@[simp] theorem State.spend_opCycles (s : State) (n : Nat) : (s.spend n).opCycles = n := rfl
@[simp] theorem State.spend_host (s : State) (n : Nat) : (s.spend n).host = s.host := rfl
@[simp] theorem State.spend_params (s : State) (n : Nat) : (s.spend n).params = s.params := rfl
@[simp] theorem State.spend_cpu (s : State) (n : Nat) : (s.spend n).cpu = s.cpu := rfl
@[simp] theorem State.request_timer (s : State) (k : Nat) : (s.request k).timer = s.timer := rfl
@[simp] theorem State.request_dma (s : State) (k : Nat) : (s.request k).dma = s.dma := rfl
@[simp] theorem State.request_ppu (s : State) (k : Nat) : (s.request k).ppu = s.ppu := rfl
@[simp] theorem State.request_apu (s : State) (k : Nat) : (s.request k).apu = s.apu := rfl
@[simp] theorem State.request_joypad (s : State) (k : Nat) : (s.request k).joypad = s.joypad := rfl
@[simp] theorem State.request_serial (s : State) (k : Nat) : (s.request k).serial = s.serial := rfl
@[simp] theorem State.request_cart (s : State) (k : Nat) : (s.request k).cart = s.cart := rfl
@[simp] theorem State.request_boot (s : State) (k : Nat) : (s.request k).boot = s.boot := rfl
@[simp] theorem State.request_vram (s : State) (k : Nat) : (s.request k).vram = s.vram := rfl
@[simp] theorem State.request_wram (s : State) (k : Nat) : (s.request k).wram = s.wram := rfl
@[simp] theorem State.request_oam (s : State) (k : Nat) : (s.request k).oam = s.oam := rfl
@[simp] theorem State.request_hram (s : State) (k : Nat) : (s.request k).hram = s.hram := rfl
@[simp] theorem State.request_masterCycles (s : State) (k : Nat) : (s.request k).masterCycles = s.masterCycles := rfl
@[simp] theorem State.request_opCycles (s : State) (k : Nat) : (s.request k).opCycles = s.opCycles := rfl
@[simp] theorem State.request_host (s : State) (k : Nat) : (s.request k).host = s.host := rfl
@[simp] theorem State.request_params (s : State) (k : Nat) : (s.request k).params = s.params := rfl
@[simp] theorem State.request_cpu (s : State) (k : Nat) : (s.request k).cpu = s.cpu := rfl
@[simp] theorem State.request_ie (s : State) (k : Nat) : (s.request k).intr.ie = s.intr.ie := rfl
@[simp] theorem State.request_iflag (s : State) (k : Nat) :
    (s.request k).intr.iflag = s.intr.iflag ||| BitVec.ofNat 5 (2 ^ k) := rfl

end Sys2Proof.Machine
end

