-- ==== Sys2Proof/Laws/Bus.lean ====
section
/-! SUPPORT. What a bus write can do, said once: it never touches the CPU, the cycle counts, the host, the parameters
or an image, and it does not look at the CPU. -/

namespace Sys2Proof.Machine

/-! ### The memory map by region (R135) -/

/-- Every address is in one of the ten regions. -/
theorem region_cases (a : Word) :
    a.toNat < 0x8000 ∨
    (0x8000 ≤ a.toNat ∧ a.toNat < 0xA000) ∨
    (0xA000 ≤ a.toNat ∧ a.toNat < 0xC000) ∨
    (0xC000 ≤ a.toNat ∧ a.toNat < 0xE000) ∨
    (0xE000 ≤ a.toNat ∧ a.toNat < 0xFE00) ∨
    (0xFE00 ≤ a.toNat ∧ a.toNat < 0xFEA0) ∨
    (0xFEA0 ≤ a.toNat ∧ a.toNat < 0xFF00) ∨
    (0xFF00 ≤ a.toNat ∧ a.toNat < 0xFF80) ∨
    (0xFF80 ≤ a.toNat ∧ a.toNat < 0xFFFF) ∨
    a.toNat = 0xFFFF := by
  have h := a.isLt
  omega

theorem rawRead_rom (s : State) (a : Word) (h : a.toNat < 0x8000) :
    rawRead s a = romRead s a.toNat := by
  simp only [rawRead, if_pos (show a.toNat < 0x8000 by omega)]

theorem rawWrite_rom (s : State) (a : Word) (v : Byte) (h : a.toNat < 0x8000) :
    rawWrite s a v = { s with cart := s.cart.writeRom a.toNat v } := by
  simp only [rawWrite, if_pos (show a.toNat < 0x8000 by omega)]

theorem rawRead_vram (s : State) (a : Word) (h : 0x8000 ≤ a.toNat ∧ a.toNat < 0xA000) :
    rawRead s a = s.vram.read (a.toNat - 0x8000) := by
  simp only [rawRead, if_neg (show ¬a.toNat < 0x8000 by omega), if_pos (show a.toNat < 0xA000 by omega)]

theorem rawWrite_vram (s : State) (a : Word) (v : Byte) (h : 0x8000 ≤ a.toNat ∧ a.toNat < 0xA000) :
    rawWrite s a v = { s with vram := s.vram.write (a.toNat - 0x8000) v } := by
  simp only [rawWrite, if_neg (show ¬a.toNat < 0x8000 by omega), if_pos (show a.toNat < 0xA000 by omega)]

theorem rawRead_sram (s : State) (a : Word) (h : 0xA000 ≤ a.toNat ∧ a.toNat < 0xC000) :
    rawRead s a = s.cart.readRam a.toNat := by
  simp only [rawRead, if_neg (show ¬a.toNat < 0x8000 by omega), if_neg (show ¬a.toNat < 0xA000 by omega), if_pos (show a.toNat < 0xC000 by omega)]

theorem rawWrite_sram (s : State) (a : Word) (v : Byte) (h : 0xA000 ≤ a.toNat ∧ a.toNat < 0xC000) :
    rawWrite s a v = { s with cart := s.cart.writeRam a.toNat v } := by
  simp only [rawWrite, if_neg (show ¬a.toNat < 0x8000 by omega), if_neg (show ¬a.toNat < 0xA000 by omega), if_pos (show a.toNat < 0xC000 by omega)]

theorem rawRead_wram (s : State) (a : Word) (h : 0xC000 ≤ a.toNat ∧ a.toNat < 0xE000) :
    rawRead s a = s.wram.read (a.toNat - 0xC000) := by
  simp only [rawRead, if_neg (show ¬a.toNat < 0x8000 by omega), if_neg (show ¬a.toNat < 0xA000 by omega), if_neg (show ¬a.toNat < 0xC000 by omega), if_pos (show a.toNat < 0xE000 by omega)]

theorem rawWrite_wram (s : State) (a : Word) (v : Byte) (h : 0xC000 ≤ a.toNat ∧ a.toNat < 0xE000) :
    rawWrite s a v = { s with wram := s.wram.write (a.toNat - 0xC000) v } := by
  simp only [rawWrite, if_neg (show ¬a.toNat < 0x8000 by omega), if_neg (show ¬a.toNat < 0xA000 by omega), if_neg (show ¬a.toNat < 0xC000 by omega), if_pos (show a.toNat < 0xE000 by omega)]

theorem rawRead_echo (s : State) (a : Word) (h : 0xE000 ≤ a.toNat ∧ a.toNat < 0xFE00) :
    rawRead s a = s.wram.read (a.toNat - 0xE000) := by
  simp only [rawRead, if_neg (show ¬a.toNat < 0x8000 by omega), if_neg (show ¬a.toNat < 0xA000 by omega), if_neg (show ¬a.toNat < 0xC000 by omega), if_neg (show ¬a.toNat < 0xE000 by omega), if_pos (show a.toNat < 0xFE00 by omega)]

theorem rawWrite_echo (s : State) (a : Word) (v : Byte) (h : 0xE000 ≤ a.toNat ∧ a.toNat < 0xFE00) :
    rawWrite s a v = { s with wram := s.wram.write (a.toNat - 0xE000) v } := by
  simp only [rawWrite, if_neg (show ¬a.toNat < 0x8000 by omega), if_neg (show ¬a.toNat < 0xA000 by omega), if_neg (show ¬a.toNat < 0xC000 by omega), if_neg (show ¬a.toNat < 0xE000 by omega), if_pos (show a.toNat < 0xFE00 by omega)]

theorem rawRead_oam (s : State) (a : Word) (h : 0xFE00 ≤ a.toNat ∧ a.toNat < 0xFEA0) :
    rawRead s a = s.oam.read (a.toNat - 0xFE00) := by
  simp only [rawRead, if_neg (show ¬a.toNat < 0x8000 by omega), if_neg (show ¬a.toNat < 0xA000 by omega), if_neg (show ¬a.toNat < 0xC000 by omega), if_neg (show ¬a.toNat < 0xE000 by omega), if_neg (show ¬a.toNat < 0xFE00 by omega), if_pos (show a.toNat < 0xFEA0 by omega)]

theorem rawWrite_oam (s : State) (a : Word) (v : Byte) (h : 0xFE00 ≤ a.toNat ∧ a.toNat < 0xFEA0) :
    rawWrite s a v = { s with oam := s.oam.write (a.toNat - 0xFE00) v } := by
  simp only [rawWrite, if_neg (show ¬a.toNat < 0x8000 by omega), if_neg (show ¬a.toNat < 0xA000 by omega), if_neg (show ¬a.toNat < 0xC000 by omega), if_neg (show ¬a.toNat < 0xE000 by omega), if_neg (show ¬a.toNat < 0xFE00 by omega), if_pos (show a.toNat < 0xFEA0 by omega)]

theorem rawRead_prohibited (s : State) (a : Word) (h : 0xFEA0 ≤ a.toNat ∧ a.toNat < 0xFF00) :
    rawRead s a = 0xFF := by
  simp only [rawRead, if_neg (show ¬a.toNat < 0x8000 by omega), if_neg (show ¬a.toNat < 0xA000 by omega), if_neg (show ¬a.toNat < 0xC000 by omega), if_neg (show ¬a.toNat < 0xE000 by omega), if_neg (show ¬a.toNat < 0xFE00 by omega), if_neg (show ¬a.toNat < 0xFEA0 by omega), if_pos (show a.toNat < 0xFF00 by omega)]

theorem rawWrite_prohibited (s : State) (a : Word) (v : Byte) (h : 0xFEA0 ≤ a.toNat ∧ a.toNat < 0xFF00) :
    rawWrite s a v = s := by
  simp only [rawWrite, if_neg (show ¬a.toNat < 0x8000 by omega), if_neg (show ¬a.toNat < 0xA000 by omega), if_neg (show ¬a.toNat < 0xC000 by omega), if_neg (show ¬a.toNat < 0xE000 by omega), if_neg (show ¬a.toNat < 0xFE00 by omega), if_neg (show ¬a.toNat < 0xFEA0 by omega), if_pos (show a.toNat < 0xFF00 by omega)]

theorem rawRead_io (s : State) (a : Word) (h : 0xFF00 ≤ a.toNat ∧ a.toNat < 0xFF80) :
    rawRead s a = ioRead s (a.toNat - 0xFF00) := by
  simp only [rawRead, if_neg (show ¬a.toNat < 0x8000 by omega), if_neg (show ¬a.toNat < 0xA000 by omega), if_neg (show ¬a.toNat < 0xC000 by omega), if_neg (show ¬a.toNat < 0xE000 by omega), if_neg (show ¬a.toNat < 0xFE00 by omega), if_neg (show ¬a.toNat < 0xFEA0 by omega), if_neg (show ¬a.toNat < 0xFF00 by omega), if_pos (show a.toNat < 0xFF80 by omega)]

theorem rawWrite_io (s : State) (a : Word) (v : Byte) (h : 0xFF00 ≤ a.toNat ∧ a.toNat < 0xFF80) :
    rawWrite s a v = ioWrite s (a.toNat - 0xFF00) v := by
  simp only [rawWrite, if_neg (show ¬a.toNat < 0x8000 by omega), if_neg (show ¬a.toNat < 0xA000 by omega), if_neg (show ¬a.toNat < 0xC000 by omega), if_neg (show ¬a.toNat < 0xE000 by omega), if_neg (show ¬a.toNat < 0xFE00 by omega), if_neg (show ¬a.toNat < 0xFEA0 by omega), if_neg (show ¬a.toNat < 0xFF00 by omega), if_pos (show a.toNat < 0xFF80 by omega)]

theorem rawRead_hram (s : State) (a : Word) (h : 0xFF80 ≤ a.toNat ∧ a.toNat < 0xFFFF) :
    rawRead s a = s.hram.read (a.toNat - 0xFF80) := by
  simp only [rawRead, if_neg (show ¬a.toNat < 0x8000 by omega), if_neg (show ¬a.toNat < 0xA000 by omega), if_neg (show ¬a.toNat < 0xC000 by omega), if_neg (show ¬a.toNat < 0xE000 by omega), if_neg (show ¬a.toNat < 0xFE00 by omega), if_neg (show ¬a.toNat < 0xFEA0 by omega), if_neg (show ¬a.toNat < 0xFF00 by omega), if_neg (show ¬a.toNat < 0xFF80 by omega), if_pos (show a.toNat < 0xFFFF by omega)]

theorem rawWrite_hram (s : State) (a : Word) (v : Byte) (h : 0xFF80 ≤ a.toNat ∧ a.toNat < 0xFFFF) :
    rawWrite s a v = { s with hram := s.hram.write (a.toNat - 0xFF80) v } := by
  simp only [rawWrite, if_neg (show ¬a.toNat < 0x8000 by omega), if_neg (show ¬a.toNat < 0xA000 by omega), if_neg (show ¬a.toNat < 0xC000 by omega), if_neg (show ¬a.toNat < 0xE000 by omega), if_neg (show ¬a.toNat < 0xFE00 by omega), if_neg (show ¬a.toNat < 0xFEA0 by omega), if_neg (show ¬a.toNat < 0xFF00 by omega), if_neg (show ¬a.toNat < 0xFF80 by omega), if_pos (show a.toNat < 0xFFFF by omega)]

theorem rawRead_ie (s : State) (a : Word) (h : a.toNat = 0xFFFF) :
    rawRead s a = s.intr.ie := by
  simp only [rawRead, if_neg (show ¬a.toNat < 0x8000 by omega), if_neg (show ¬a.toNat < 0xA000 by omega), if_neg (show ¬a.toNat < 0xC000 by omega), if_neg (show ¬a.toNat < 0xE000 by omega), if_neg (show ¬a.toNat < 0xFE00 by omega), if_neg (show ¬a.toNat < 0xFEA0 by omega), if_neg (show ¬a.toNat < 0xFF00 by omega), if_neg (show ¬a.toNat < 0xFF80 by omega), if_neg (show ¬a.toNat < 0xFFFF by omega)]

theorem rawWrite_ie (s : State) (a : Word) (v : Byte) (h : a.toNat = 0xFFFF) :
    rawWrite s a v = { s with intr := { s.intr with ie := v } } := by
  simp only [rawWrite, if_neg (show ¬a.toNat < 0x8000 by omega), if_neg (show ¬a.toNat < 0xA000 by omega), if_neg (show ¬a.toNat < 0xC000 by omega), if_neg (show ¬a.toNat < 0xE000 by omega), if_neg (show ¬a.toNat < 0xFE00 by omega), if_neg (show ¬a.toNat < 0xFEA0 by omega), if_neg (show ¬a.toNat < 0xFF00 by omega), if_neg (show ¬a.toNat < 0xFF80 by omega), if_neg (show ¬a.toNat < 0xFFFF by omega)]

/-! ### A write does not look at the CPU or the cycle counts -/

theorem statUpdate_withCpu (s : State) (c : Cpu) : statUpdate { s with cpu := c } = { statUpdate s with cpu := c } := by
  unfold statUpdate
  dsimp only
  split <;> rfl

theorem ioWrite_withCpu (s : State) (c : Cpu) (r : Nat) (v : Byte) :
    ioWrite { s with cpu := c } r v = { ioWrite s r v with cpu := c } := by
  unfold ioWrite
  split
  case h_9 => exact statUpdate_withCpu { s with ppu := s.ppu.writeLcdc v } c
  case h_10 => exact statUpdate_withCpu { s with ppu := s.ppu.writeStat v } c
  case h_13 => exact statUpdate_withCpu { s with ppu := { s.ppu with lyc := v } } c
  case h_21 => split <;> rfl
  all_goals rfl

theorem rawWrite_withCpu (s : State) (c : Cpu) (a : Word) (v : Byte) :
    rawWrite { s with cpu := c } a v = { rawWrite s a v with cpu := c } := by
  rcases region_cases a with h | h | h | h | h | h | h | h | h | h
  · simp only [rawWrite_rom _ _ _ h]
  · simp only [rawWrite_vram _ _ _ h]
  · simp only [rawWrite_sram _ _ _ h]
  · simp only [rawWrite_wram _ _ _ h]
  · simp only [rawWrite_echo _ _ _ h]
  · simp only [rawWrite_oam _ _ _ h]
  · simp only [rawWrite_prohibited _ _ _ h]
  · simp only [rawWrite_io _ _ _ h, ioWrite_withCpu]
  · simp only [rawWrite_hram _ _ _ h]
  · simp only [rawWrite_ie _ _ _ h]

theorem busWrite_withCpu (s : State) (c : Cpu) (a : Word) (v : Byte) :
    busWrite { s with cpu := c } a v = { busWrite s a v with cpu := c } := by
  unfold busWrite
  rw [rawWrite_withCpu, show writeLocked { s with cpu := c } a = writeLocked s a from rfl]
  split <;> rfl

/-! ### What a write never changes -/

/-- A register write changes at most the register files of the devices, IF, and whether the boot ROM is mapped. -/
theorem ioWrite_shape (s : State) (r : Nat) (v : Byte) :
    ∃ jp se tm fl pp dm ap mp, ioWrite s r v =
      { s with
        joypad := jp, serial := se, timer := tm, intr := { s.intr with iflag := fl }, ppu := pp, dma := dm, apu := ap
        boot := { s.boot with mapped := mp } } := by
  unfold ioWrite
  split
  case h_9 => unfold statUpdate; split <;> exact ⟨_, _, _, _, _, _, _, _, rfl⟩
  case h_10 => unfold statUpdate; split <;> exact ⟨_, _, _, _, _, _, _, _, rfl⟩
  case h_13 => unfold statUpdate; split <;> exact ⟨_, _, _, _, _, _, _, _, rfl⟩
  case h_21 => split <;> exact ⟨_, _, _, _, _, _, _, _, rfl⟩
  all_goals exact ⟨_, _, _, _, _, _, _, _, rfl⟩

theorem Cart.writeRom_fixed (c : Cart) (a : Nat) (v : Byte) :
    (c.writeRom a v).rom = c.rom ∧ (c.writeRom a v).romBanks = c.romBanks ∧ (c.writeRom a v).ramSize = c.ramSize ∧
    (c.writeRom a v).hasRam = c.hasRam ∧ (c.writeRom a v).battery = c.battery ∧ (c.writeRom a v).ram = c.ram ∧
    (c.writeRom a v).dirty = c.dirty ∧ (c.writeRom a v).mbc.nibbles = c.mbc.nibbles := by
  refine ⟨rfl, rfl, rfl, rfl, rfl, rfl, rfl, ?_⟩
  unfold Cart.writeRom
  cases c.mbc <;> rfl

theorem Cart.writeRam_fixed (c : Cart) (a : Nat) (v : Byte) :
    (c.writeRam a v).rom = c.rom ∧ (c.writeRam a v).romBanks = c.romBanks ∧ (c.writeRam a v).ramSize = c.ramSize ∧
    (c.writeRam a v).hasRam = c.hasRam ∧ (c.writeRam a v).battery = c.battery ∧ (c.writeRam a v).mbc = c.mbc := by
  unfold Cart.writeRam
  split <;> exact ⟨rfl, rfl, rfl, rfl, rfl, rfl⟩

/-- A write never touches the CPU, the cycle counts, the host, the parameters or an image. -/
theorem rawWrite_fixed (s : State) (a : Word) (v : Byte) :
    (rawWrite s a v).cpu = s.cpu ∧ (rawWrite s a v).opCycles = s.opCycles ∧
    (rawWrite s a v).masterCycles = s.masterCycles ∧ (rawWrite s a v).host = s.host ∧ (rawWrite s a v).params = s.params ∧
    (rawWrite s a v).boot.rom = s.boot.rom := by
  rcases region_cases a with h | h | h | h | h | h | h | h | h | h
  · rw [rawWrite_rom _ _ _ h]; exact ⟨rfl, rfl, rfl, rfl, rfl, rfl⟩
  · rw [rawWrite_vram _ _ _ h]; exact ⟨rfl, rfl, rfl, rfl, rfl, rfl⟩
  · rw [rawWrite_sram _ _ _ h]; exact ⟨rfl, rfl, rfl, rfl, rfl, rfl⟩
  · rw [rawWrite_wram _ _ _ h]; exact ⟨rfl, rfl, rfl, rfl, rfl, rfl⟩
  · rw [rawWrite_echo _ _ _ h]; exact ⟨rfl, rfl, rfl, rfl, rfl, rfl⟩
  · rw [rawWrite_oam _ _ _ h]; exact ⟨rfl, rfl, rfl, rfl, rfl, rfl⟩
  · rw [rawWrite_prohibited _ _ _ h]; exact ⟨rfl, rfl, rfl, rfl, rfl, rfl⟩
  · rw [rawWrite_io _ _ _ h]
    obtain ⟨_, _, _, _, _, _, _, _, e⟩ := ioWrite_shape s (a.toNat - 0xFF00) v
    rw [e]
    exact ⟨rfl, rfl, rfl, rfl, rfl, rfl⟩
  · rw [rawWrite_hram _ _ _ h]; exact ⟨rfl, rfl, rfl, rfl, rfl, rfl⟩
  · rw [rawWrite_ie _ _ _ h]; exact ⟨rfl, rfl, rfl, rfl, rfl, rfl⟩

theorem busWrite_cases (s : State) (a : Word) (v : Byte) : busWrite s a v = s ∨ busWrite s a v = rawWrite s a v := by
  unfold busWrite
  split
  · exact .inl rfl
  · exact .inr rfl

theorem busWrite_fixed (s : State) (a : Word) (v : Byte) :
    (busWrite s a v).cpu = s.cpu ∧ (busWrite s a v).opCycles = s.opCycles ∧
    (busWrite s a v).masterCycles = s.masterCycles ∧ (busWrite s a v).host = s.host ∧ (busWrite s a v).params = s.params ∧
    (busWrite s a v).boot.rom = s.boot.rom := by
  rcases busWrite_cases s a v with h | h <;> rw [h]
  · exact ⟨rfl, rfl, rfl, rfl, rfl, rfl⟩
  · exact rawWrite_fixed s a v

@[simp] theorem busWrite_cpu (s : State) (a : Word) (v : Byte) : (busWrite s a v).cpu = s.cpu := (busWrite_fixed s a v).1
@[simp] theorem busWrite_opCycles (s : State) (a : Word) (v : Byte) : (busWrite s a v).opCycles = s.opCycles :=
  (busWrite_fixed s a v).2.1
@[simp] theorem busWrite_masterCycles (s : State) (a : Word) (v : Byte) :
    (busWrite s a v).masterCycles = s.masterCycles := (busWrite_fixed s a v).2.2.1
@[simp] theorem busWrite_host (s : State) (a : Word) (v : Byte) : (busWrite s a v).host = s.host :=
  (busWrite_fixed s a v).2.2.2.1
@[simp] theorem busWrite_params (s : State) (a : Word) (v : Byte) : (busWrite s a v).params = s.params :=
  (busWrite_fixed s a v).2.2.2.2.1
@[simp] theorem busWrite_bootRom (s : State) (a : Word) (v : Byte) : (busWrite s a v).boot.rom = s.boot.rom :=
  (busWrite_fixed s a v).2.2.2.2.2

/-- The cartridge after a write: unchanged, or an MBC register write, or a RAM write. -/
theorem rawWrite_cart (s : State) (a : Word) (v : Byte) :
    (rawWrite s a v).cart =
      if a.toNat < 0x8000 then s.cart.writeRom a.toNat v
      else if 0xA000 ≤ a.toNat ∧ a.toNat < 0xC000 then s.cart.writeRam a.toNat v
      else s.cart := by
  rcases region_cases a with h | h | h | h | h | h | h | h | h | h
  · rw [rawWrite_rom _ _ _ h, if_pos h]
  · rw [rawWrite_vram _ _ _ h, if_neg (by omega), if_neg (by omega)]
  · rw [rawWrite_sram _ _ _ h, if_neg (by omega), if_pos (by omega)]
  · rw [rawWrite_wram _ _ _ h, if_neg (by omega), if_neg (by omega)]
  · rw [rawWrite_echo _ _ _ h, if_neg (by omega), if_neg (by omega)]
  · rw [rawWrite_oam _ _ _ h, if_neg (by omega), if_neg (by omega)]
  · rw [rawWrite_prohibited _ _ _ h, if_neg (by omega), if_neg (by omega)]
  · rw [rawWrite_io _ _ _ h, if_neg (by omega), if_neg (by omega)]
    obtain ⟨_, _, _, _, _, _, _, _, e⟩ := ioWrite_shape s (a.toNat - 0xFF00) v
    rw [e]
  · rw [rawWrite_hram _ _ _ h, if_neg (by omega), if_neg (by omega)]
  · rw [rawWrite_ie _ _ _ h, if_neg (by omega), if_neg (by omega)]

/-- No write changes a ROM image or what the header declared. -/
theorem busWrite_images (s : State) (a : Word) (v : Byte) :
    (busWrite s a v).cart.rom = s.cart.rom ∧ (busWrite s a v).cart.romBanks = s.cart.romBanks ∧
    (busWrite s a v).cart.ramSize = s.cart.ramSize ∧ (busWrite s a v).cart.hasRam = s.cart.hasRam ∧
    (busWrite s a v).cart.battery = s.cart.battery ∧ (busWrite s a v).cart.mbc.nibbles = s.cart.mbc.nibbles := by
  rcases busWrite_cases s a v with h | h <;> rw [h]
  · exact ⟨rfl, rfl, rfl, rfl, rfl, rfl⟩
  · rw [rawWrite_cart]
    have h1 := s.cart.writeRom_fixed a.toNat v
    have h2 := s.cart.writeRam_fixed a.toNat v
    split
    · exact ⟨h1.1, h1.2.1, h1.2.2.1, h1.2.2.2.1, h1.2.2.2.2.1, h1.2.2.2.2.2.2.2⟩
    · split
      · exact ⟨h2.1, h2.2.1, h2.2.2.1, h2.2.2.2.1, h2.2.2.2.2.1, by rw [h2.2.2.2.2.2]⟩
      · exact ⟨rfl, rfl, rfl, rfl, rfl, rfl⟩

/-- Only a write to 0xFF50 touches the boot ROM's mapping, and no write maps it again. -/
theorem ioWrite_boot (s : State) (r : Nat) (v : Byte) :
    (ioWrite s r v).boot = if r = 0x50 then s.boot.write v else s.boot := by
  unfold ioWrite
  split
  case h_9 => unfold statUpdate; split <;> rfl
  case h_10 => unfold statUpdate; split <;> rfl
  case h_13 => unfold statUpdate; split <;> rfl
  case h_21 h => rw [if_neg h]; split <;> rfl
  all_goals rfl

theorem rawWrite_boot (s : State) (a : Word) (v : Byte) :
    (rawWrite s a v).boot = if a.toNat = 0xFF50 then s.boot.write v else s.boot := by
  rcases region_cases a with h | h | h | h | h | h | h | h | h | h
  · rw [rawWrite_rom _ _ _ h, if_neg (by omega)]
  · rw [rawWrite_vram _ _ _ h, if_neg (by omega)]
  · rw [rawWrite_sram _ _ _ h, if_neg (by omega)]
  · rw [rawWrite_wram _ _ _ h, if_neg (by omega)]
  · rw [rawWrite_echo _ _ _ h, if_neg (by omega)]
  · rw [rawWrite_oam _ _ _ h, if_neg (by omega)]
  · rw [rawWrite_prohibited _ _ _ h, if_neg (by omega)]
  · rw [rawWrite_io _ _ _ h, ioWrite_boot]
    by_cases e : a.toNat = 0xFF50
    · rw [if_pos e, if_pos (by omega)]
    · rw [if_neg e, if_neg (by omega)]
  · rw [rawWrite_hram _ _ _ h, if_neg (by omega)]
  · rw [rawWrite_ie _ _ _ h, if_neg (by omega)]

theorem busWrite_mapped (s : State) (a : Word) (v : Byte) (h : s.boot.mapped = false) :
    (busWrite s a v).boot.mapped = false := by
  rcases busWrite_cases s a v with e | e <;> rw [e]
  · exact h
  · rw [rawWrite_boot]
    split
    · simp [Boot.write, h]
    · exact h

end Sys2Proof.Machine
end

