-- ==== Sys2Proof/Laws/Decode.lean ====
section
/-! SUPPORT. Lengths, and the decoder on the bytes of one instruction followed by anything. -/

namespace Sys2Proof

/-- Every instruction is one to three bytes long. -/
theorem Instr.length_bounds (i : Instr) : 1 ≤ i.length ∧ i.length ≤ 3 := by
  cases i <;> exact ⟨Nat.le_of_ble_eq_true rfl, Nat.le_of_ble_eq_true rfl⟩

theorem decode_one (b0 : Byte) (rest : List Byte) (i : Instr) (h : ∀ b1 b2, decode3 b0 b1 b2 = i) (hl : i.length = 1) :
    decode (b0 :: rest) = .ok (i, rest) := by
  simp [decode, h, hl]

theorem decode_two (b0 b1 : Byte) (rest : List Byte) (i : Instr) (h : ∀ b2, decode3 b0 b1 b2 = i) (hl : i.length = 2) :
    decode (b0 :: b1 :: rest) = .ok (i, rest) := by
  simp [decode, h, hl]

theorem decode_three (b0 b1 b2 : Byte) (rest : List Byte) (i : Instr) (h : decode3 b0 b1 b2 = i) (hl : i.length = 3) :
    decode (b0 :: b1 :: b2 :: rest) = .ok (i, rest) := by
  simp [decode, h, hl]

/-- On three bytes the decoder always answers, with the instruction of `decode3`. -/
theorem decode_window (b0 b1 b2 : Byte) :
    decode [b0, b1, b2] = .ok (decode3 b0 b1 b2, [b0, b1, b2].drop (decode3 b0 b1 b2).length) := by
  have h := (decode3 b0 b1 b2).length_bounds
  simp only [decode, List.getD_cons_zero, List.getD_cons_succ]
  rw [if_neg (by simp only [List.length_cons, List.length_nil]; omega)]

end Sys2Proof
end

