-- ==== Sys2Proof/Laws/Devices.lean ====
section
/-! SUPPORT. What the devices' ticks can do, said once: which fields each piece changes, and that they only ever request
interrupts 0, 1 and 2. -/

namespace Sys2Proof.Machine

/-- `t` differs from `s` in the devices, OAM, IF and the host's sinks only, and IF has only gained bits 0 to 2. -/
structure DeviceStep (s t : State) : Prop where
  cpu : t.cpu = s.cpu
  ie : t.intr.ie = s.intr.ie
  joypad : t.joypad = s.joypad
  serial : t.serial = s.serial
  cart : t.cart = s.cart
  boot : t.boot = s.boot
  vram : t.vram = s.vram
  wram : t.wram = s.wram
  hram : t.hram = s.hram
  masterCycles : t.masterCycles = s.masterCycles
  opCycles : t.opCycles = s.opCycles
  params : t.params = s.params
  events : t.host.events = s.host.events
  saves : t.host.saves = s.host.saves ∧ t.host.lastSave = s.host.lastSave
  title : t.host.title = s.host.title
  keeps : ∀ k, s.intr.iflag.getLsbD k = true → t.intr.iflag.getLsbD k = true
  serialIrq : t.intr.iflag.getLsbD 3 = s.intr.iflag.getLsbD 3
  joypadIrq : t.intr.iflag.getLsbD 4 = s.intr.iflag.getLsbD 4

theorem DeviceStep.refl (s : State) : DeviceStep s s :=
  ⟨rfl, rfl, rfl, rfl, rfl, rfl, rfl, rfl, rfl, rfl, rfl, rfl, rfl, ⟨rfl, rfl⟩, rfl, fun _ h => h, rfl, rfl⟩

theorem DeviceStep.trans {s t u : State} (h : DeviceStep s t) (g : DeviceStep t u) : DeviceStep s u :=
  ⟨g.cpu.trans h.cpu, g.ie.trans h.ie, g.joypad.trans h.joypad, g.serial.trans h.serial, g.cart.trans h.cart,
    g.boot.trans h.boot, g.vram.trans h.vram, g.wram.trans h.wram, g.hram.trans h.hram,
    g.masterCycles.trans h.masterCycles, g.opCycles.trans h.opCycles, g.params.trans h.params, g.events.trans h.events,
    ⟨g.saves.1.trans h.saves.1, g.saves.2.trans h.saves.2⟩, g.title.trans h.title, fun k hk => g.keeps k (h.keeps k hk),
    g.serialIrq.trans h.serialIrq, g.joypadIrq.trans h.joypadIrq⟩

/-- Requesting interrupt 0, 1 or 2. -/
theorem DeviceStep.request (s : State) (k : Nat) (hk : k < 3) : DeviceStep s (s.request k) := by
  refine ⟨rfl, rfl, rfl, rfl, rfl, rfl, rfl, rfl, rfl, rfl, rfl, rfl, rfl, ⟨rfl, rfl⟩, rfl, ?_, ?_, ?_⟩
  · intro j hj
    simp [State.request, BitVec.getLsbD_or, hj]
  · interval_cases k <;> simp [State.request]
  · interval_cases k <;> simp [State.request]

/-! ### Timer -/

theorem timerT_eq (s : State) :
    timerT s =
      if s.timer.reloadCountdown = 1 then ({ s with timer := s.timer.reload.1.count }.request 2)
      else { s with timer := s.timer.reload.1.count } := by
  unfold timerT Timer.reload
  by_cases h0 : s.timer.reloadCountdown = 0
  · simp [h0]
  · by_cases h1 : s.timer.reloadCountdown = 1
    · simp [h1]
    · simp [h0, h1]

/-- Every timer T-cycle advances the counter. -/
theorem Timer.count_counter (t : Timer) : t.count.counter = t.counter + 1 := by
  unfold Timer.count Timer.incTima
  dsimp only
  split
  · split <;> rfl
  · rfl

theorem Timer.reload_counter (t : Timer) : t.reload.1.counter = t.counter := by
  unfold Timer.reload
  split
  · rfl
  · split <;> rfl

theorem timerT_counter (s : State) : (timerT s).timer.counter = s.timer.counter + 1 := by
  rw [timerT_eq]
  split <;> exact (Timer.count_counter _).trans (by rw [Timer.reload_counter])

/-- A timer T-cycle changes the timer and IF bit 2 only. -/
theorem timerT_device (s : State) : DeviceStep s (timerT s) := by
  have h : ∀ t, DeviceStep s { s with timer := t } := fun _ =>
    ⟨rfl, rfl, rfl, rfl, rfl, rfl, rfl, rfl, rfl, rfl, rfl, rfl, rfl, ⟨rfl, rfl⟩, rfl, fun _ h => h, rfl, rfl⟩
  rw [timerT_eq]
  split
  · exact (h _).trans (.request _ 2 (by decide))
  · exact h _

theorem timerT_fixed (s : State) :
    (timerT s).dma = s.dma ∧ (timerT s).ppu = s.ppu ∧ (timerT s).apu = s.apu ∧ (timerT s).oam = s.oam ∧
    (timerT s).host = s.host := by
  rw [timerT_eq]
  split <;> exact ⟨rfl, rfl, rfl, rfl, rfl⟩

/-! ### DMA -/

theorem dmaM_device (s : State) : DeviceStep s (dmaM s) := by
  unfold dmaM
  split
  · exact ⟨rfl, rfl, rfl, rfl, rfl, rfl, rfl, rfl, rfl, rfl, rfl, rfl, rfl, ⟨rfl, rfl⟩, rfl, fun _ h => h, rfl, rfl⟩
  · exact .refl s

theorem dmaM_fixed (s : State) :
    (dmaM s).timer = s.timer ∧ (dmaM s).ppu = s.ppu ∧ (dmaM s).apu = s.apu ∧ (dmaM s).intr = s.intr ∧
    (dmaM s).host = s.host := by
  unfold dmaM
  split <;> exact ⟨rfl, rfl, rfl, rfl, rfl⟩

/-! ### PPU -/

/-- A change of the PPU alone is a device step. -/
theorem DeviceStep.ppu (s : State) (p : Ppu) : DeviceStep s { s with ppu := p } :=
  ⟨rfl, rfl, rfl, rfl, rfl, rfl, rfl, rfl, rfl, rfl, rfl, rfl, rfl, ⟨rfl, rfl⟩, rfl, fun _ h => h, rfl, rfl⟩

theorem statUpdate_device (s : State) : DeviceStep s (statUpdate s) := by
  unfold statUpdate
  dsimp only
  split
  · exact (DeviceStep.ppu s _).trans (.request _ 1 (by decide))
  · exact .ppu s _

theorem advanceDot_device (s : State) : DeviceStep s (advanceDot s) := by
  unfold advanceDot frameDone
  split
  · split
    · exact ⟨rfl, rfl, rfl, rfl, rfl, rfl, rfl, rfl, rfl, rfl, rfl, rfl, rfl, ⟨rfl, rfl⟩, rfl, fun _ h => h, rfl, rfl⟩
    · exact .ppu s _
  · exact .ppu s _

theorem enterMode_device (m : Mode) (s : State) : DeviceStep s (enterMode m s) := by
  cases m
  · unfold enterMode enterHblank
    dsimp only
    split
    · exact .ppu s _
    · exact .refl s
  · exact .request s 0 (by decide)
  · exact .refl s
  · exact .ppu s _

theorem updateMode_device (s : State) : DeviceStep s (updateMode s) := by
  unfold updateMode
  dsimp only
  split
  · exact .refl s
  · exact (DeviceStep.ppu s _).trans (enterMode_device _ _)

theorem renderDot_device (s : State) : DeviceStep s (renderDot s) := by
  unfold renderDot
  dsimp only
  split
  · exact .ppu s _
  · exact .refl s

theorem ppuDot_device (s : State) : DeviceStep s (ppuDot s) := by
  unfold ppuDot
  split
  · exact (advanceDot_device s).trans ((updateMode_device _).trans ((renderDot_device _).trans (statUpdate_device _)))
  · exact .refl s

/-- What a dot leaves alone beside. -/
theorem statUpdate_fixed (s : State) :
    (statUpdate s).timer = s.timer ∧ (statUpdate s).dma = s.dma ∧ (statUpdate s).apu = s.apu ∧
    (statUpdate s).oam = s.oam ∧ (statUpdate s).host = s.host ∧ (statUpdate s).ppu = s.ppu.latchLevels := by
  unfold statUpdate
  dsimp only
  split <;> exact ⟨rfl, rfl, rfl, rfl, rfl, rfl⟩

theorem advanceDot_fixed (s : State) :
    (advanceDot s).timer = s.timer ∧ (advanceDot s).dma = s.dma ∧ (advanceDot s).apu = s.apu ∧
    (advanceDot s).oam = s.oam ∧ (advanceDot s).intr = s.intr := by
  unfold advanceDot frameDone
  split
  · split <;> exact ⟨rfl, rfl, rfl, rfl, rfl⟩
  · exact ⟨rfl, rfl, rfl, rfl, rfl⟩

theorem enterMode_fixed (m : Mode) (s : State) :
    (enterMode m s).timer = s.timer ∧ (enterMode m s).dma = s.dma ∧ (enterMode m s).apu = s.apu ∧
    (enterMode m s).oam = s.oam ∧ (enterMode m s).host = s.host := by
  cases m
  · unfold enterMode enterHblank
    dsimp only
    split <;> exact ⟨rfl, rfl, rfl, rfl, rfl⟩
  all_goals exact ⟨rfl, rfl, rfl, rfl, rfl⟩

theorem updateMode_fixed (s : State) :
    (updateMode s).timer = s.timer ∧ (updateMode s).dma = s.dma ∧ (updateMode s).apu = s.apu ∧
    (updateMode s).oam = s.oam ∧ (updateMode s).host = s.host := by
  unfold updateMode
  dsimp only
  split
  · exact ⟨rfl, rfl, rfl, rfl, rfl⟩
  · exact enterMode_fixed _ _

theorem renderDot_fixed (s : State) :
    (renderDot s).timer = s.timer ∧ (renderDot s).dma = s.dma ∧ (renderDot s).apu = s.apu ∧
    (renderDot s).oam = s.oam ∧ (renderDot s).host = s.host ∧ (renderDot s).intr = s.intr := by
  unfold renderDot
  dsimp only
  split <;> exact ⟨rfl, rfl, rfl, rfl, rfl, rfl⟩

theorem ppuDot_fixed (s : State) :
    (ppuDot s).timer = s.timer ∧ (ppuDot s).dma = s.dma ∧ (ppuDot s).apu = s.apu ∧ (ppuDot s).oam = s.oam := by
  unfold ppuDot
  split
  · obtain ⟨a1, a2, a3, a4, -⟩ := advanceDot_fixed s
    obtain ⟨b1, b2, b3, b4, -⟩ := updateMode_fixed (advanceDot s)
    obtain ⟨c1, c2, c3, c4, -, -⟩ := renderDot_fixed (updateMode (advanceDot s))
    obtain ⟨d1, d2, d3, d4, -⟩ := statUpdate_fixed (renderDot (updateMode (advanceDot s)))
    exact ⟨d1.trans (c1.trans (b1.trans a1)), d2.trans (c2.trans (b2.trans a2)), d3.trans (c3.trans (b3.trans a3)),
      d4.trans (c4.trans (b4.trans a4))⟩
  · exact ⟨rfl, rfl, rfl, rfl⟩

/-! ### APU -/

theorem HostPort.takeMix_fixed (h : HostPort) (p : Params) (m : Sample) :
    (h.takeMix p m).events = h.events ∧ (h.takeMix p m).framesDone = h.framesDone ∧
    (h.takeMix p m).lcdFrame = h.lcdFrame ∧ (h.takeMix p m).saves = h.saves ∧ (h.takeMix p m).lastSave = h.lastSave ∧
    (h.takeMix p m).title = h.title := by
  unfold HostPort.takeMix
  split
  · exact ⟨rfl, rfl, rfl, rfl, rfl, rfl⟩
  · dsimp only
    split
    · split <;> exact ⟨rfl, rfl, rfl, rfl, rfl, rfl⟩
    · exact ⟨rfl, rfl, rfl, rfl, rfl, rfl⟩

theorem apuT_device (s : State) : DeviceStep s (apuT s) := by
  obtain ⟨h1, -, -, h2, h3, h4⟩ := s.host.takeMix_fixed s.params s.apu.tickT.mix
  exact ⟨rfl, rfl, rfl, rfl, rfl, rfl, rfl, rfl, rfl, rfl, rfl, rfl, h1, ⟨h2, h3⟩, h4, fun _ h => h, rfl, rfl⟩

theorem apuM_device (s : State) : DeviceStep s (apuM s) := by
  have h : DeviceStep s { s with apu := s.apu.sequencer (s.timer.counter.getLsbD 12) } :=
    ⟨rfl, rfl, rfl, rfl, rfl, rfl, rfl, rfl, rfl, rfl, rfl, rfl, rfl, ⟨rfl, rfl⟩, rfl, fun _ h => h, rfl, rfl⟩
  exact h.trans ((apuT_device _).trans ((apuT_device _).trans ((apuT_device _).trans (apuT_device _))))

theorem apuM_fixed (s : State) :
    (apuM s).timer = s.timer ∧ (apuM s).dma = s.dma ∧ (apuM s).ppu = s.ppu ∧ (apuM s).oam = s.oam ∧
    (apuM s).intr = s.intr := ⟨rfl, rfl, rfl, rfl, rfl⟩

theorem apuM_apu (s : State) :
    (apuM s).apu = (s.apu.sequencer (s.timer.counter.getLsbD 12)).tickT.tickT.tickT.tickT := rfl

theorem apuM_frames (s : State) : (apuM s).host.framesDone = s.host.framesDone := by
  have h : ∀ t : State, (apuT t).host.framesDone = t.host.framesDone := fun t =>
    (t.host.takeMix_fixed t.params t.apu.tickT.mix).2.1
  exact (h _).trans ((h _).trans ((h _).trans (h _)))

/-! ### Ticks -/

theorem mCycle_device (s : State) : DeviceStep s (mCycle s) :=
  (timerT_device s).trans <| (timerT_device _).trans <| (timerT_device _).trans <| (timerT_device _).trans <|
    (dmaM_device _).trans <| (ppuDot_device _).trans <| (ppuDot_device _).trans <| (ppuDot_device _).trans <|
    (ppuDot_device _).trans <| apuM_device _

/-- No number of M-cycles of the devices changes more than `DeviceStep` says. -/
theorem tick_device (n : Nat) (s : State) : DeviceStep s (tick n s) := by
  induction n generalizing s with
  | zero => exact .refl s
  | succ n ih => exact (mCycle_device s).trans (ih _)

theorem tick_add (m n : Nat) (s : State) : tick (m + n) s = tick n (tick m s) := by
  induction m generalizing s with
  | zero => rw [Nat.zero_add]; rfl
  | succ m ih => rw [Nat.succ_add]; exact ih (mCycle s)

/-! ### Joypad poll -/

/-- A poll changes the buttons, IF bit 4 and the event queue only. -/
theorem joypadUpdate_fixed (s : State) (ev : JoyEvent) :
    ∃ fl, joypadUpdate s ev = { s with joypad := s.joypad.setPressed ev.button ev.pressed, intr := { s.intr with iflag := fl } } ∧
      (∀ k, s.intr.iflag.getLsbD k = true → fl.getLsbD k = true) ∧ (∀ k < 4, fl.getLsbD k = s.intr.iflag.getLsbD k) := by
  unfold joypadUpdate
  dsimp only
  split
  · refine ⟨_, rfl, ?_, ?_⟩
    · intro k hk
      simp [BitVec.getLsbD_or, hk]
    · intro k hk
      interval_cases k <;> simp
  · exact ⟨_, rfl, fun _ h => h, fun _ _ => rfl⟩

theorem pollJoypad_fixed (s : State) :
    ∃ jp fl, pollJoypad s =
      { s with joypad := jp, intr := { s.intr with iflag := fl }, host := { s.host with events := [] } } ∧
      (∀ k, s.intr.iflag.getLsbD k = true → fl.getLsbD k = true) ∧ (∀ k < 4, fl.getLsbD k = s.intr.iflag.getLsbD k) := by
  have h : ∀ (evs : List JoyEvent) (t : State), ∃ jp fl, evs.foldl joypadUpdate t =
      { t with joypad := jp, intr := { t.intr with iflag := fl } } ∧
      (∀ k, t.intr.iflag.getLsbD k = true → fl.getLsbD k = true) ∧
      (∀ k < 4, fl.getLsbD k = t.intr.iflag.getLsbD k) := by
    intro evs
    induction evs with
    | nil => exact fun t => ⟨t.joypad, t.intr.iflag, rfl, fun _ h => h, fun _ _ => rfl⟩
    | cons ev evs ih =>
      intro t
      obtain ⟨fl, e, up, low⟩ := joypadUpdate_fixed t ev
      obtain ⟨jp', fl', e', up', low'⟩ := ih (joypadUpdate t ev)
      rw [e] at e' up' low'
      refine ⟨jp', fl', ?_, fun k hk => up' k (up k hk), fun k hk => (low' k hk).trans (low k hk)⟩
      rw [List.foldl_cons, e, e']
  exact h s.host.events { s with host := { s.host with events := [] } }

@[simp] theorem pollJoypad_cpu (s : State) : (pollJoypad s).cpu = s.cpu := by
  obtain ⟨jp, fl, e, -⟩ := pollJoypad_fixed s
  rw [e]

end Sys2Proof.Machine
end

