-- ==== Sys2Proof/Laws/Ops.lean ====
section
/-! SUPPORT. What the shared operations do, said once: a run of stores, push, pop, and taking an interrupt. -/

namespace Sys2Proof.Machine

/-! ### Stores -/

/-- A list of bus writes, in order. -/
def stores (ws : List (Word × Byte)) (s : State) : State := ws.foldl (fun t w => busWrite t w.1 w.2) s

@[simp] theorem stores_nil (s : State) : stores [] s = s := rfl
@[simp] theorem stores_cons (w : Word × Byte) (ws : List (Word × Byte)) (s : State) :
    stores (w :: ws) s = stores ws (busWrite s w.1 w.2) := rfl

theorem stores_withCpu (ws : List (Word × Byte)) (s : State) (c : Cpu) :
    stores ws { s with cpu := c } = { stores ws s with cpu := c } := by
  induction ws generalizing s with
  | nil => rfl
  | cons w ws ih => rw [stores_cons, busWrite_withCpu, ih, stores_cons]

/-- Stores touch neither the CPU, the cycle counts, the host, the parameters nor an image. -/
theorem stores_fixed (ws : List (Word × Byte)) (s : State) :
    (stores ws s).cpu = s.cpu ∧ (stores ws s).opCycles = s.opCycles ∧ (stores ws s).masterCycles = s.masterCycles ∧
    (stores ws s).host = s.host ∧ (stores ws s).params = s.params ∧ (stores ws s).boot.rom = s.boot.rom := by
  induction ws generalizing s with
  | nil => exact ⟨rfl, rfl, rfl, rfl, rfl, rfl⟩
  | cons w ws ih =>
    obtain ⟨h1, h2, h3, h4, h5, h6⟩ := ih (busWrite s w.1 w.2)
    obtain ⟨g1, g2, g3, g4, g5, g6⟩ := busWrite_fixed s w.1 w.2
    exact ⟨h1.trans g1, h2.trans g2, h3.trans g3, h4.trans g4, h5.trans g5, h6.trans g6⟩

/-- What holds of a state and is kept by one bus write is kept by any run of them. -/
theorem stores_keeps (P : State → Prop) (hw : ∀ s a v, P s → P (busWrite s a v)) (ws : List (Word × Byte)) (s : State)
    (h : P s) : P (stores ws s) := by
  induction ws generalizing s with
  | nil => exact h
  | cons w ws ih => exact ih _ (hw _ _ _ h)

/-! ### Push and pop (R14) -/

/-- A push is two stores, high byte first, below an SP that moves down by 2. -/
theorem push16_eq (s : State) (v : Word) :
    push16 s v =
      { stores [(s.cpu.sp - 1, hiByte v), (s.cpu.sp - 2, loByte v)] s with cpu := { s.cpu with sp := s.cpu.sp - 2 } } := by
  have e : s.cpu.sp - 1 - 1 = s.cpu.sp - 2 := by
    rw [BitVec.sub_sub]
    rfl
  simp only [push16, State.setSp, stores_cons, stores_nil, busWrite_withCpu, e]

theorem push16_cpu (s : State) (v : Word) : (push16 s v).cpu = { s.cpu with sp := s.cpu.sp - 2 } := by
  rw [push16_eq]

/-- A pop reads the low byte at SP and the high byte above it. -/
theorem popValue_eq (s : State) : popValue s = busRead s (s.cpu.sp + 1) ++ busRead s s.cpu.sp := mkWord_eq_append _ _

/-! ### Taking an interrupt (R740, R743) -/

theorem takeInterrupt_eq (s : State) (k : Nat) :
    takeInterrupt s k =
      { stores [(s.cpu.sp - 1, hiByte s.cpu.pc), (s.cpu.sp - 2, loByte s.cpu.pc)]
          { s with intr := { s.intr with iflag := s.intr.iflag &&& ~~~(BitVec.ofNat 5 (2 ^ k)) } } with
        cpu := { s.cpu with ime := false, imePending := false, sp := s.cpu.sp - 2, pc := interruptVector k } } := by
  have e := stores_withCpu [(s.cpu.sp - 1, hiByte s.cpu.pc), (s.cpu.sp - 2, loByte s.cpu.pc)]
    { s with intr := { s.intr with iflag := s.intr.iflag &&& ~~~(BitVec.ofNat 5 (2 ^ k)) } }
    { s.cpu with ime := false, imePending := false }
  simp only [takeInterrupt, push16_eq, State.setPc]
  dsimp only at e ⊢
  rw [e]

/-! ### Flags as a byte (R51, R52) -/

@[simp] theorem Flags.ofByte_toByte (f : Flags) : Flags.ofByte f.toByte = f := by
  obtain ⟨z, n, h, c⟩ := f
  revert z n h c
  decide

theorem Flags.toByte_ofByte (v : Byte) : (Flags.ofByte v).toByte = v &&& 0xF0 := by
  revert v
  decide

end Sys2Proof.Machine
end

