-- ==== Sys2Proof/Laws/Driver.lean ====
section
/-! SUPPORT. The driver's pieces, said once: what is requested, the EI latch, the fetch, the save flush. -/

namespace Sys2Proof.Machine

/-! ### Requests (R721, R741) -/

theorem pending_getLsbD (s : State) (k : Nat) (hk : k < 5) :
    (pending s).getLsbD k = (s.intr.ie.getLsbD k && s.intr.iflag.getLsbD k) := by
  simp only [pending, BitVec.getLsbD_and]
  congr 1
  rw [show BitVec.ofNat 5 s.intr.ie.toNat = s.intr.ie.setWidth 5 by simp]
  simp [hk]

/-- The interrupt that is taken is requested, and none below it is. -/
theorem lowestPending_spec (p : BitVec 5) (h : p ≠ 0) :
    lowestPending p < 5 ∧ p.getLsbD (lowestPending p) = true ∧ ∀ j < lowestPending p, p.getLsbD j = false := by
  revert p
  decide

/-- The vectors of R720. -/
theorem interruptVector_eq (k : Nat) (hk : k < 5) : interruptVector k = 0x0040 + 8 * BitVec.ofNat 16 k := by
  interval_cases k <;> rfl

/-! ### EI latch (R742) -/

theorem imeLatch_idle (was : Bool) (s : State) (h : was = false ∨ s.cpu.imePending = false) : imeLatch was s = s := by
  unfold imeLatch
  rw [if_neg]
  rcases h with h | h <;> simp [h]

/-! ### The evaluation (R740) -/

theorem evaluateInterrupts_none (s : State) (h : pending s = 0) : evaluateInterrupts s = (s, 0) := by
  rw [evaluateInterrupts, if_pos h]

theorem evaluateInterrupts_wake (s : State) (h : pending s ≠ 0) (hi : s.cpu.ime = false) :
    evaluateInterrupts s = (s.setHalt .running, 0) := by
  rw [evaluateInterrupts, if_neg h, hi]
  rfl

theorem evaluateInterrupts_take (s : State) (h : pending s ≠ 0) (hi : s.cpu.ime = true) :
    evaluateInterrupts s = (tick 5 (takeInterrupt (s.setHalt .running) (lowestPending (pending s))), 5) := by
  rw [evaluateInterrupts, if_neg h, hi]
  rfl

/-- The evaluation leaves the cycle counts alone and costs nothing or five M-cycles, after which IME is clear. -/
theorem evaluateInterrupts_counts (s : State) :
    (evaluateInterrupts s).1.masterCycles = s.masterCycles ∧ (evaluateInterrupts s).1.cpu.fatal = s.cpu.fatal ∧
    ((evaluateInterrupts s).2 = 0 ∨ (evaluateInterrupts s).2 = 5 ∧ (evaluateInterrupts s).1.cpu.ime = false) := by
  by_cases h : pending s = 0
  · rw [evaluateInterrupts_none s h]
    exact ⟨rfl, rfl, .inl rfl⟩
  · cases hi : s.cpu.ime
    · rw [evaluateInterrupts_wake s h hi]
      exact ⟨rfl, rfl, .inl rfl⟩
    · rw [evaluateInterrupts_take s h hi]
      have d := tick_device 5 (takeInterrupt (s.setHalt .running) (lowestPending (pending s)))
      refine ⟨?_, ?_, .inr ⟨rfl, ?_⟩⟩
      · rw [d.masterCycles, takeInterrupt_eq]
        exact (stores_fixed _ _).2.2.1
      · rw [d.cpu, takeInterrupt_eq]
        rfl
      · rw [d.cpu, takeInterrupt_eq]

/-! ### Save flush (R806) -/

theorem flushSave_clean (s : State) (h : s.cart.dirty = false) : flushSave s = s := by
  rw [flushSave, h]
  rfl

/-- A flush changes the dirty mark and the host's record of saves only. -/
theorem flushSave_fixed (s : State) :
    (flushSave s).cpu = s.cpu ∧ (flushSave s).masterCycles = s.masterCycles ∧ (flushSave s).opCycles = s.opCycles ∧
    (flushSave s).cart.dirty = false ∧ (flushSave s).cart.ram = s.cart.ram := by
  unfold flushSave
  split
  · exact ⟨rfl, rfl, rfl, rfl, rfl⟩
  · exact ⟨rfl, rfl, rfl, by simpa using ‹¬s.cart.dirty = true›, rfl⟩

theorem saveFlush_cpu (frames : Nat) (s : State) : (saveFlush frames s).cpu = s.cpu := by
  unfold saveFlush
  split
  · exact (flushSave_fixed s).1
  · rfl

/-! ### Fetch (R245) -/

/-- What is fetched is what the decoder reads from the bytes at PC. -/
theorem fetched_of_decode (s : State) (i : Instr) (tail : List Byte)
    (h : decode [busRead s s.cpu.pc, busRead s (s.cpu.pc + 1), busRead s (s.cpu.pc + 2)] = .ok (i, tail)) :
    fetched s = i := by
  rw [decode_window] at h
  injection h with h
  exact (Prod.mk.inj h).1

/-- Reading does not look at the CPU. -/
theorem ioRead_withCpu (s : State) (c : Cpu) (r : Nat) : ioRead { s with cpu := c } r = ioRead s r := by
  unfold ioRead
  split <;> rfl

theorem rawRead_withCpu (s : State) (c : Cpu) (a : Word) : rawRead { s with cpu := c } a = rawRead s a := by
  rcases region_cases a with h | h | h | h | h | h | h | h | h | h
  · rw [rawRead_rom _ _ h, rawRead_rom _ _ h]; rfl
  · rw [rawRead_vram _ _ h, rawRead_vram _ _ h]
  · rw [rawRead_sram _ _ h, rawRead_sram _ _ h]
  · rw [rawRead_wram _ _ h, rawRead_wram _ _ h]
  · rw [rawRead_echo _ _ h, rawRead_echo _ _ h]
  · rw [rawRead_oam _ _ h, rawRead_oam _ _ h]
  · rw [rawRead_prohibited _ _ h, rawRead_prohibited _ _ h]
  · rw [rawRead_io _ _ h, rawRead_io _ _ h, ioRead_withCpu]
  · rw [rawRead_hram _ _ h, rawRead_hram _ _ h]
  · rw [rawRead_ie _ _ h, rawRead_ie _ _ h]

theorem busRead_withCpu (s : State) (c : Cpu) (a : Word) : busRead { s with cpu := c } a = busRead s a := by
  rw [busRead, rawRead_withCpu]
  rfl

end Sys2Proof.Machine
end

