-- ==== Sys2Proof/Laws/Exec.lean ====
section
/-! SUPPORT. What any instruction can do, said once: it stores to the addresses of its footprint, and otherwise changes
only the CPU and its cycle count. -/

namespace Sys2Proof.Machine

/-- `out` is a next state that stores to the addresses `at_` of `s`, in order, and otherwise changes only the CPU and the
cycle count. -/
def Effect (at_ : List Word) (s : State) (out : Result) : Prop :=
  ∃ ws c n, ws.map Prod.fst = at_ ∧ out = .next { stores ws s with cpu := c, opCycles := n }

theorem Effect.cpuOnly (s : State) (c : Cpu) (n : Nat) : Effect [] s (.next { s with cpu := c, opCycles := n }) :=
  ⟨[], c, n, rfl, rfl⟩

theorem Effect.one (s : State) (a : Word) (v : Byte) (c : Cpu) (n : Nat) :
    Effect [a] s (.next { busWrite s a v with cpu := c, opCycles := n }) :=
  ⟨[(a, v)], c, n, rfl, rfl⟩

theorem Effect.push (s : State) (v : Word) (f : State → State) (c : Cpu) (n : Nat)
    (hf : ∀ t, f t = { t with cpu := c, opCycles := n }) :
    Effect [s.cpu.sp - 1, s.cpu.sp - 2] s (.next (f (push16 s v))) :=
  ⟨[(s.cpu.sp - 1, hiByte v), (s.cpu.sp - 2, loByte v)], c, n, rfl, by rw [hf, push16_eq]⟩

/-! ### The shared operations of the families -/

/-- The bytes `r8[k]` stores to when written. -/
def R8.at_ (o : R8) (s : State) : List Word :=
  match o with
  | .reg _ => []
  | .atHl => [s.pair .hl]

theorem writeR8_effect (s : State) (o : R8) (v : Byte) (f : State → State)
    (hf : ∀ t, ∃ c n, f t = { t with cpu := c, opCycles := n }) : Effect (o.at_ s) s (.next (f (writeR8 s o v))) := by
  obtain ⟨c, n, e⟩ := hf (writeR8 s o v)
  rw [e]
  cases o with
  | reg r => exact ⟨[], c, n, rfl, rfl⟩
  | atHl => exact ⟨[(s.pair .hl, v)], c, n, rfl, rfl⟩

theorem storeA_effect (a : Word) (n : Nat) (s : State) : Effect [a] s (.next (storeA a n s)) :=
  ⟨[(a, s.cpu.a)], _, _, rfl, rfl⟩

theorem storeHl_effect (v : Byte) (n : Nat) (s : State) : Effect [s.pair .hl] s (.next (storeHl v n s)) :=
  ⟨[(s.pair .hl, v)], _, _, rfl, rfl⟩

theorem ldRegReg_effect (q r : Reg) (s : State) : Effect [] s (.next (ldRegReg q r s)) := ⟨[], _, _, rfl, rfl⟩

theorem alu_effect (op : AluOp) (src : Src) (s : State) : Effect [] s (.next (alu op src s)) := ⟨[], _, _, rfl, rfl⟩

theorem incR8_effect (o : R8) (s : State) : Effect (o.at_ s) s (.next (incR8 o s)) :=
  writeR8_effect s o _ (fun t => (t.setFlags _).spend _) fun _ => ⟨_, _, rfl⟩

theorem decR8_effect (o : R8) (s : State) : Effect (o.at_ s) s (.next (decR8 o s)) :=
  writeR8_effect s o _ (fun t => (t.setFlags _).spend _) fun _ => ⟨_, _, rfl⟩

theorem cbRot_effect (op : Rot) (o : R8) (s : State) : Effect (o.at_ s) s (.next (cbRot op o s)) :=
  writeR8_effect s o _ (fun t => (t.setFlags _).spend _) fun _ => ⟨_, _, rfl⟩

theorem cbBit_effect (k : Nat) (o : R8) (s : State) : Effect [] s (.next (cbBit k o s)) := ⟨[], _, _, rfl, rfl⟩

theorem cbRes_effect (k : Nat) (o : R8) (s : State) : Effect (o.at_ s) s (.next (cbRes k o s)) :=
  writeR8_effect s o _ (fun t => t.spend _) fun t => ⟨t.cpu, _, rfl⟩

theorem cbSet_effect (k : Nat) (o : R8) (s : State) : Effect (o.at_ s) s (.next (cbSet k o s)) :=
  writeR8_effect s o _ (fun t => t.spend _) fun t => ⟨t.cpu, _, rfl⟩

theorem jumpRelIf_effect (cc : Cond) (e : Byte) (s : State) : Effect [] s (.next (jumpRelIf cc e s)) := by
  unfold jumpRelIf
  split <;> exact ⟨[], _, _, rfl, rfl⟩

theorem jumpIf_effect (cc : Cond) (a : Word) (s : State) : Effect [] s (.next (jumpIf cc a s)) := by
  unfold jumpIf
  split <;> exact ⟨[], _, _, rfl, rfl⟩

theorem retIf_effect (cc : Cond) (s : State) : Effect [] s (.next (retIf cc s)) := by
  unfold retIf
  split <;> exact ⟨[], _, _, rfl, rfl⟩

theorem call_effect (a : Word) (s : State) : Effect [s.cpu.sp - 1, s.cpu.sp - 2] s (.next (call a s)) :=
  ⟨[(s.cpu.sp - 1, hiByte s.cpu.pc), (s.cpu.sp - 2, loByte s.cpu.pc)], _, _, rfl, by rw [call, push16_eq]; rfl⟩

theorem callIf_effect (cc : Cond) (a : Word) (s : State) :
    Effect (if condHolds s.cpu.f cc then [s.cpu.sp - 1, s.cpu.sp - 2] else []) s (.next (callIf cc a s)) := by
  unfold callIf
  split
  · exact call_effect a s
  · exact ⟨[], _, _, rfl, rfl⟩

theorem restart_effect (n : Byte) (s : State) : Effect [s.cpu.sp - 1, s.cpu.sp - 2] s (.next (restart n s)) :=
  ⟨[(s.cpu.sp - 1, hiByte s.cpu.pc), (s.cpu.sp - 2, loByte s.cpu.pc)], _, _, rfl, by rw [restart, push16_eq]; rfl⟩

theorem pushPair_effect (p : StackPair) (s : State) : Effect [s.cpu.sp - 1, s.cpu.sp - 2] s (.next (pushPair p s)) :=
  ⟨[(s.cpu.sp - 1, hiByte (s.stackPair p)), (s.cpu.sp - 2, loByte (s.stackPair p))], _, _,
    rfl, by rw [pushPair, push16_eq]; rfl⟩

theorem storeSp_effect (a : Word) (s : State) : Effect [a, a + 1] s (.next (storeSp a s)) :=
  ⟨[(a, loByte s.cpu.sp), (a + 1, hiByte s.cpu.sp)], _, _, rfl, rfl⟩

theorem stopMode_effect (s : State) : Effect [] s (.next (stopMode s)) := by
  unfold stopMode
  dsimp only
  split <;> exact ⟨[], _, _, rfl, rfl⟩

theorem r8Field_at (o2 : Byte) (s : State) : (r8Field (field o2 2 0)).at_ s = if o2.toNat % 8 = 6 then [s.pair .hl] else [] := by
  have e : field o2 2 0 = o2.toNat % 8 := by simp [field]
  rw [e]
  have h := Nat.mod_lt o2.toNat (show 0 < 8 by decide)
  generalize o2.toNat % 8 = z at *
  interval_cases z <;> rfl

theorem field_76 (o2 : Byte) : field o2 7 6 = o2.toNat / 64 := by
  have := o2.isLt
  simp only [field]
  omega

/-- A CB row's footprint: HL for an operand in memory, but for the BIT rows. -/
theorem storedAt_prefixCb (o2 : Byte) (s : State) :
    storedAt (.prefixCb o2) s = if field o2 7 6 = 1 then [] else (r8Field (field o2 2 0)).at_ s := by
  have h := o2.isLt
  have e : storedAt (.prefixCb o2) s =
    if o2.toNat % 8 = 6 ∧ ¬(0x40 ≤ o2.toNat ∧ o2.toNat < 0x80) then [s.pair .hl] else [] := rfl
  rw [e, r8Field_at, field_76]
  by_cases h1 : o2.toNat / 64 = 1
  · rw [if_pos h1, if_neg (by omega)]
  · rw [if_neg h1]
    by_cases h2 : o2.toNat % 8 = 6
    · rw [if_pos h2, if_pos ⟨h2, by omega⟩]
    · rw [if_neg h2, if_neg fun h => h2 h.1]

theorem cbEntry_effect (o2 : Byte) (s : State) : Effect (storedAt (.prefixCb o2) s) s (.next (cbEntry o2 s)) := by
  rw [storedAt_prefixCb]
  unfold cbEntry
  generalize field o2 7 6 = x
  rcases x with _ | _ | _ | x
  · exact cbRot_effect _ _ s
  · exact cbBit_effect _ _ s
  · exact cbRes_effect _ _ s
  · exact cbSet_effect _ _ s

/-! ### Every instruction -/

/-- Every instruction answers a next state: stores to its footprint, then a new CPU and a cycle count. -/
theorem exec_effect (i : Instr) (s : State) : Effect (storedAt i s) s (exec i s) := by
  cases i
  case ldAtA16Sp =>
    exact storeSp_effect _ s
  case stop =>
    exact stopMode_effect s
  case jrNzE8 | jrZE8 | jrNcE8 | jrCE8 =>
    exact jumpRelIf_effect _ _ s
  case ldAtHlD8 | ldAtHlB | ldAtHlC | ldAtHlD | ldAtHlE | ldAtHlH | ldAtHlL | ldAtHlA =>
    exact storeHl_effect _ _ s
  case jpNzA16 | jpZA16 | jpNcA16 | jpCA16 =>
    exact jumpIf_effect _ _ s
  case callNzA16 | callZA16 | callNcA16 | callCA16 =>
    exact callIf_effect _ _ s
  case addAD8 | adcAD8 | subD8 | sbcAD8 | andD8 | xorD8 | orD8 | cpD8 | addAB | addAC | addAD | addAE | addAH | addAL |
    addAAtHl | addAA | adcAB | adcAC | adcAD | adcAE | adcAH | adcAL | adcAAtHl | adcAA | subB | subC | subD |
    subE | subH | subL | subAtHl | subA | sbcAB | sbcAC | sbcAD | sbcAE | sbcAH | sbcAL | sbcAAtHl | sbcAA |
    andB | andC | andD | andE | andH | andL | andAtHl | andA | xorB | xorC | xorD | xorE | xorH | xorL | xorAtHl
    | xorA | orB | orC | orD | orE | orH | orL | orAtHl | orA | cpB | cpC | cpD | cpE | cpH | cpL | cpAtHl | cpA =>
    exact alu_effect _ _ s
  case prefixCb =>
    exact cbEntry_effect _ s
  case callA16 =>
    exact call_effect _ s
  case ldhAtA8A | ldAtA16A | ldAtBcA | ldAtDeA | ldAtCA =>
    exact storeA_effect _ _ s
  case incB | incC | incD | incE | incH | incL | incA =>
    exact incR8_effect (.reg _) s
  case decB | decC | decD | decE | decH | decL | decA =>
    exact decR8_effect (.reg _) s
  case ldAtHliA | ldAtHldA =>
    exact ⟨[(s.pair .hl, s.cpu.a)], _, _, rfl, rfl⟩
  case incAtHl =>
    exact incR8_effect .atHl s
  case decAtHl =>
    exact decR8_effect .atHl s
  case ldBB | ldBC | ldBD | ldBE | ldBH | ldBL | ldBA | ldCB | ldCC | ldCD | ldCE | ldCH | ldCL | ldCA | ldDB | ldDC |
    ldDD | ldDE | ldDH | ldDL | ldDA | ldEB | ldEC | ldED | ldEE | ldEH | ldEL | ldEA | ldHB | ldHC | ldHD |
    ldHE | ldHH | ldHL | ldHA | ldLB | ldLC | ldLD | ldLE | ldLH | ldLL | ldLA | ldAB | ldAC | ldAD | ldAE |
    ldAH | ldAL | ldAA =>
    exact ldRegReg_effect _ _ s
  case retNz | retZ | retNc | retC =>
    exact retIf_effect _ s
  case pushBc | pushDe | pushHl | pushAf =>
    exact pushPair_effect _ s
  case rst00 | rst08 | rst10 | rst18 | rst20 | rst28 | rst30 | rst38 =>
    exact restart_effect _ s
  case rlcB | rlcC | rlcD | rlcE | rlcH | rlcL | rlcA | rrcB | rrcC | rrcD | rrcE | rrcH | rrcL | rrcA | rlB | rlC |
    rlD | rlE | rlH | rlL | rlA | rrB | rrC | rrD | rrE | rrH | rrL | rrA | slaB | slaC | slaD | slaE | slaH |
    slaL | slaA | sraB | sraC | sraD | sraE | sraH | sraL | sraA | swapB | swapC | swapD | swapE | swapH | swapL
    | swapA | srlB | srlC | srlD | srlE | srlH | srlL | srlA =>
    exact cbRot_effect _ (.reg _) s
  case rlcAtHl | rrcAtHl | rlAtHl | rrAtHl | slaAtHl | sraAtHl | swapAtHl | srlAtHl =>
    exact cbRot_effect _ .atHl s
  case bit0B | bit0C | bit0D | bit0E | bit0H | bit0L | bit0AtHl | bit0A =>
    exact cbBit_effect 0 _ s
  case bit1B | bit1C | bit1D | bit1E | bit1H | bit1L | bit1AtHl | bit1A =>
    exact cbBit_effect 1 _ s
  case bit2B | bit2C | bit2D | bit2E | bit2H | bit2L | bit2AtHl | bit2A =>
    exact cbBit_effect 2 _ s
  case bit3B | bit3C | bit3D | bit3E | bit3H | bit3L | bit3AtHl | bit3A =>
    exact cbBit_effect 3 _ s
  case bit4B | bit4C | bit4D | bit4E | bit4H | bit4L | bit4AtHl | bit4A =>
    exact cbBit_effect 4 _ s
  case bit5B | bit5C | bit5D | bit5E | bit5H | bit5L | bit5AtHl | bit5A =>
    exact cbBit_effect 5 _ s
  case bit6B | bit6C | bit6D | bit6E | bit6H | bit6L | bit6AtHl | bit6A =>
    exact cbBit_effect 6 _ s
  case bit7B | bit7C | bit7D | bit7E | bit7H | bit7L | bit7AtHl | bit7A =>
    exact cbBit_effect 7 _ s
  case res0B | res0C | res0D | res0E | res0H | res0L | res0A =>
    exact cbRes_effect 0 (.reg _) s
  case res0AtHl =>
    exact cbRes_effect 0 .atHl s
  case res1B | res1C | res1D | res1E | res1H | res1L | res1A =>
    exact cbRes_effect 1 (.reg _) s
  case res1AtHl =>
    exact cbRes_effect 1 .atHl s
  case res2B | res2C | res2D | res2E | res2H | res2L | res2A =>
    exact cbRes_effect 2 (.reg _) s
  case res2AtHl =>
    exact cbRes_effect 2 .atHl s
  case res3B | res3C | res3D | res3E | res3H | res3L | res3A =>
    exact cbRes_effect 3 (.reg _) s
  case res3AtHl =>
    exact cbRes_effect 3 .atHl s
  case res4B | res4C | res4D | res4E | res4H | res4L | res4A =>
    exact cbRes_effect 4 (.reg _) s
  case res4AtHl =>
    exact cbRes_effect 4 .atHl s
  case res5B | res5C | res5D | res5E | res5H | res5L | res5A =>
    exact cbRes_effect 5 (.reg _) s
  case res5AtHl =>
    exact cbRes_effect 5 .atHl s
  case res6B | res6C | res6D | res6E | res6H | res6L | res6A =>
    exact cbRes_effect 6 (.reg _) s
  case res6AtHl =>
    exact cbRes_effect 6 .atHl s
  case res7B | res7C | res7D | res7E | res7H | res7L | res7A =>
    exact cbRes_effect 7 (.reg _) s
  case res7AtHl =>
    exact cbRes_effect 7 .atHl s
  case set0B | set0C | set0D | set0E | set0H | set0L | set0A =>
    exact cbSet_effect 0 (.reg _) s
  case set0AtHl =>
    exact cbSet_effect 0 .atHl s
  case set1B | set1C | set1D | set1E | set1H | set1L | set1A =>
    exact cbSet_effect 1 (.reg _) s
  case set1AtHl =>
    exact cbSet_effect 1 .atHl s
  case set2B | set2C | set2D | set2E | set2H | set2L | set2A =>
    exact cbSet_effect 2 (.reg _) s
  case set2AtHl =>
    exact cbSet_effect 2 .atHl s
  case set3B | set3C | set3D | set3E | set3H | set3L | set3A =>
    exact cbSet_effect 3 (.reg _) s
  case set3AtHl =>
    exact cbSet_effect 3 .atHl s
  case set4B | set4C | set4D | set4E | set4H | set4L | set4A =>
    exact cbSet_effect 4 (.reg _) s
  case set4AtHl =>
    exact cbSet_effect 4 .atHl s
  case set5B | set5C | set5D | set5E | set5H | set5L | set5A =>
    exact cbSet_effect 5 (.reg _) s
  case set5AtHl =>
    exact cbSet_effect 5 .atHl s
  case set6B | set6C | set6D | set6E | set6H | set6L | set6A =>
    exact cbSet_effect 6 (.reg _) s
  case set6AtHl =>
    exact cbSet_effect 6 .atHl s
  case set7B | set7C | set7D | set7E | set7H | set7L | set7A =>
    exact cbSet_effect 7 (.reg _) s
  case set7AtHl =>
    exact cbSet_effect 7 .atHl s
  all_goals exact ⟨[], _, _, rfl, rfl⟩

end Sys2Proof.Machine
end

