-- ==== Sys2Proof/Laws/Flags.lean ====
section
/-! SUPPORT. Each result and flag computation in bit-vector terms, one lemma each. -/

namespace Sys2Proof.Machine

theorem Flags.carry_le (f : Flags) : f.carry ≤ 1 := by
  unfold Flags.carry
  split <;> decide

/-- R401, R402. -/
theorem addWithCarry_value (a v : Byte) (c : Nat) : (addWithCarry a v c).value = a + v + BitVec.ofNat 8 c := by
  apply BitVec.eq_of_toNat_eq
  simp [addWithCarry]

theorem addWithCarry_z (a v : Byte) (c : Nat) :
    (addWithCarry a v c).flags.z = decide (a + v + BitVec.ofNat 8 c = 0) := by
  simp only [addWithCarry, decide_eq_decide]
  rw [BitVec.toNat_eq]
  simp

/-- R403, R404, R408. -/
theorem subWithBorrow_value (a v : Byte) (c : Nat) :
    (subWithBorrow a v c).value = a - v - BitVec.ofNat 8 c := by
  apply BitVec.eq_of_toNat_eq
  have ha := a.isLt
  have hv := v.isLt
  simp only [subWithBorrow]
  rw [BitVec.toNat_ofInt, BitVec.toNat_sub, BitVec.toNat_sub, BitVec.toNat_ofNat]
  omega

theorem subWithBorrow_z (a v : Byte) (c : Nat) (hc : c ≤ 1) :
    (subWithBorrow a v c).flags.z = decide (a = v + BitVec.ofNat 8 c) := by
  have ha := a.isLt
  have hv := v.isLt
  simp only [subWithBorrow, decide_eq_decide]
  rw [BitVec.toNat_eq, BitVec.toNat_add, BitVec.toNat_ofNat]
  omega

/-- R409, R410: the zero flags. -/
theorem incResult_z (f : Flags) (v : Byte) : (incResult f v).flags.z = decide (v = 0xFF) := by
  have h : ∀ v : Byte, decide (v + 1 = 0) = decide (v = 0xFF) := by decide
  exact h v

theorem decResult_z (f : Flags) (v : Byte) : (decResult f v).flags.z = decide (v = 0x01) := by
  have h : ∀ v : Byte, decide (v - 1 = 0) = decide (v = 0x01) := by decide
  exact h v

/-- R406, R407: the zero flags. -/
theorem xorResult_z (a v : Byte) : (xorResult a v).flags.z = decide (a = v) := by
  simp [xorResult]

theorem orResult_z (a v : Byte) : (orResult a v).flags.z = decide (a = 0 ∧ v = 0) := by
  simp [orResult]

/-! ### Rotates and shifts (R505 to R512) -/

theorem rotValue_rlc (v : Byte) (c : Nat) : rotValue .rlc v c = v.rotateLeft 1 := by
  have h : ∀ v : Byte, rotValue .rlc v 0 = v.rotateLeft 1 := by decide
  exact h v

theorem rotValue_rrc (v : Byte) (c : Nat) : rotValue .rrc v c = v.rotateRight 1 := by
  have h : ∀ v : Byte, rotValue .rrc v 0 = v.rotateRight 1 := by decide
  exact h v

theorem rotValue_rl (v : Byte) : rotValue .rl v 0 = v <<< 1 ∧ rotValue .rl v 1 = (v <<< 1) ||| 1 := by
  revert v
  decide

theorem rotValue_rr (v : Byte) : rotValue .rr v 0 = v >>> 1 ∧ rotValue .rr v 1 = (v >>> 1) ||| 0x80 := by
  revert v
  decide

theorem rotValue_sla (v : Byte) (c : Nat) : rotValue .sla v c = v <<< 1 := by
  have h : ∀ v : Byte, rotValue .sla v 0 = v <<< 1 := by decide
  exact h v

theorem rotValue_sra (v : Byte) (c : Nat) : rotValue .sra v c = (v >>> 1) ||| (v &&& 0x80) := by
  have h : ∀ v : Byte, rotValue .sra v 0 = (v >>> 1) ||| (v &&& 0x80) := by decide
  exact h v

theorem rotValue_swap (v : Byte) (c : Nat) : rotValue .swap v c = v.rotateLeft 4 := by
  have h : ∀ v : Byte, rotValue .swap v 0 = v.rotateLeft 4 := by decide
  exact h v

theorem rotValue_srl (v : Byte) (c : Nat) : rotValue .srl v c = v >>> 1 := by
  have h : ∀ v : Byte, rotValue .srl v 0 = v >>> 1 := by decide
  exact h v

/-! ### Single bits (R514, R515) -/

theorem resValue_getLsbD (k : Nat) (v : Byte) (j : Nat) (hk : k < 8) (hj : j < 8) :
    (resValue k v).getLsbD j = (v.getLsbD j && decide (j ≠ k)) := by
  interval_cases k <;> interval_cases j <;> simp [resValue]

theorem setValue_getLsbD (k : Nat) (v : Byte) (j : Nat) (hk : k < 8) (hj : j < 8) :
    (setValue k v).getLsbD j = (v.getLsbD j || decide (j = k)) := by
  interval_cases k <;> interval_cases j <;> simp [setValue]

end Sys2Proof.Machine
end

