-- ==== Sys2Proof/Laws/Forms.lean ====
section
/-! SUPPORT. Every operation on memory keeps every memory form: a bus write, a DMA M-cycle, a save flush. -/

namespace Sys2Proof.Machine

/-- A write inside an array keeps its form. -/
theorem Memory.Form.write {size : Nat} {m : Memory} (h : Memory.Form size m) (a : Nat) (v : Byte) (ha : a < size) :
    Memory.Form size (m.write a v) :=
  ⟨Memory.wf_write m a v h.1, Memory.within_write size m a v h.2 ha⟩

/-- An array built from cells has its form. -/
theorem Memory.ofCells_form (size : Nat) (cells : List Host.Cell) : Memory.Form size (Memory.ofCells size cells) := by
  unfold Memory.ofCells
  have h : ∀ (l : List Host.Cell) (m : Memory), Memory.Form size m →
      Memory.Form size (l.foldl (fun m c => if c.1 < size then m.write c.1 c.2 else m) m) := by
    intro l
    induction l with
    | nil => exact fun _ h => h
    | cons c l ih =>
      intro m hm
      refine ih _ ?_
      dsimp only
      split
      · exact hm.write _ _ ‹_›
      · exact hm
  exact h _ _ ⟨rfl, rfl⟩

/-! ### The cartridge -/

theorem Mbc1.write_form (r : Mbc1) (a : Nat) (v : Byte) (h : r.bank1 ≠ 0) : (r.write a v).bank1 ≠ 0 := by
  unfold Mbc1.write
  split
  · exact h
  · split
    · dsimp only
      split
      · decide
      · exact ‹_›
    · split <;> exact h

theorem Mbc2.write_form (r : Mbc2) (a : Nat) (v : Byte) (h : r.romBank ≠ 0) : (r.write a v).romBank ≠ 0 := by
  unfold Mbc2.write
  split
  · split
    · exact h
    · dsimp only
      split
      · decide
      · exact ‹_›
  · exact h

theorem Cart.Form.writeRom {c : Cart} (h : c.Form) (a : Nat) (v : Byte) : (c.writeRom a v).Form := by
  obtain ⟨e1, e2, e3, e4, -, e6, -, e8⟩ := c.writeRom_fixed a v
  obtain ⟨h1, h2, h3, h4, h5, h6, h7, h8⟩ := h
  refine ⟨?_, ?_, ?_, ?_, ?_, ?_, ?_, ?_⟩
  · rw [e1]; exact h1
  · rw [e3, e6]; exact h2
  · rw [e2]; exact h3
  · rw [e1, e2]; exact h4
  · rw [e1]; exact h5
  · rw [e3, e4]; exact h6
  · rw [e3, e6, e8]; exact h7
  · revert h8
    unfold Cart.writeRom
    rcases c.mbc with _ | r | r | r
    · exact id
    · exact fun h => decide_eq_true (Mbc1.write_form r a v (of_decide_eq_true h))
    · exact fun h => decide_eq_true (Mbc2.write_form r a v (of_decide_eq_true h))
    · exact id

/-- A RAM cell the bank logic selects lies inside the RAM. -/
theorem Cart.ramIndex_lt (c : Cart) (h : c.Form) (a j : Nat) (e : c.ramIndex a = some j) : j < c.ramSize := by
  obtain ⟨-, -, -, -, -, h6, h7, -⟩ := h
  have off : ∀ b o, c.hasRam = true → c.ramOffset b o < c.ramSize := fun b o hr => Nat.mod_lt _ (h6 hr)
  unfold Cart.ramIndex at e
  split at e
  · cases e
  · split at e
    · rename_i hr
      rw [← Option.some.inj e]
      exact off _ _ (Bool.and_eq_true_iff.mp hr).1
    · cases e
  · rename_i r hm
    split at e
    · cases e
      rw [(h7 (by rw [hm]; rfl)).1]
      exact Nat.mod_lt _ (by decide)
    · cases e
  · split at e
    · rename_i hr
      rw [← Option.some.inj e]
      exact off _ _ (Bool.and_eq_true_iff.mp hr).1
    · cases e

theorem nibble_cells (m : Memory) (a : Nat) (v : Byte) (h : (m.all fun x => decide (x.2.toNat < 16)) = true)
    (hv : v.toNat < 16) : ((m.write a v).all fun x => decide (x.2.toNat < 16)) = true := by
  simp only [List.all_eq_true, decide_eq_true_eq] at h ⊢
  intro c hc
  rcases Memory.mem_write m a v c hc with hc | hc
  · exact h c hc
  · rw [hc.1]
    exact hv

theorem Cart.Form.writeRam {c : Cart} (h : c.Form) (a : Nat) (v : Byte) : (c.writeRam a v).Form := by
  unfold Cart.writeRam
  split
  · rename_i j e
    have hj := c.ramIndex_lt h a j e
    obtain ⟨h1, h2, h3, h4, h5, h6, h7, h8⟩ := h
    refine ⟨h1, h2.write _ _ hj, h3, h4, h5, h6, fun hn => ⟨(h7 hn).1, ?_⟩, h8⟩
    refine nibble_cells _ _ _ (h7 hn).2 ?_
    rw [show c.mbc.nibbles = true from hn, if_pos rfl, BitVec.toNat_and]
    exact Nat.lt_of_le_of_lt Nat.and_le_right (by decide)
  · exact h

/-! ### The bus and the devices -/

/-- A register write changes no array but wave RAM, and that inside its 16 bytes; the DMA it may start is at index 0. -/
theorem ioWrite_memForm (s : State) (r : Nat) (v : Byte) (h : s.MemForm) : (ioWrite s r v).MemForm := by
  have apu : ∀ r, 0x10 ≤ r ∧ r ≤ 0x3F → Memory.Form 16 (s.apu.write r v).ch3.ram := by
    intro r hr
    have h16 : Memory.Form 16 s.apu.ch3.ram := h.2.2.2.2.1
    unfold Apu.write
    split
    · exact h16.write _ _ (by omega)
    · split
      · unfold Apu.writeNr52
        split
        · split <;> exact h16
        · exact h16
      · split
        · have tr : ∀ c : WaveChannel, Memory.Form 16 c.ram → Memory.Form 16 c.trigger.ram := fun c hc => hc
          unfold Apu.writePowered
          split
          case h_5 => dsimp only; split <;> exact h16
          case h_14 => dsimp only; split <;> exact h16
          all_goals exact h16
        · exact h16
  obtain ⟨h1, h2, h3, h4, h5, h6, h7⟩ := h
  unfold ioWrite
  split
  case h_9 => unfold statUpdate; split <;> exact ⟨h1, h2, h3, h4, h5, h6, h7⟩
  case h_10 => unfold statUpdate; split <;> exact ⟨h1, h2, h3, h4, h5, h6, h7⟩
  case h_13 => unfold statUpdate; split <;> exact ⟨h1, h2, h3, h4, h5, h6, h7⟩
  case h_14 => exact ⟨h1, h2, h3, h4, h5, h6, Nat.zero_le _, fun _ => Nat.zero_lt_succ _⟩
  case h_21 =>
    split
    · exact ⟨h1, h2, h3, h4, apu _ ‹_›, h6, h7⟩
    · exact ⟨h1, h2, h3, h4, h5, h6, h7⟩
  all_goals exact ⟨h1, h2, h3, h4, h5, h6, h7⟩

/-- Every bus write keeps every array's form. -/
theorem busWrite_memForm (s : State) (a : Word) (v : Byte) (h : s.MemForm) : (busWrite s a v).MemForm := by
  rcases busWrite_cases s a v with e | e <;> rw [e]
  · exact h
  · obtain ⟨h1, h2, h3, h4, h5, h6, h7⟩ := id h
    rcases region_cases a with g | g | g | g | g | g | g | g | g | g
    · rw [rawWrite_rom _ _ _ g]; exact ⟨h1, h2, h3, h4, h5, h6.writeRom _ _, h7⟩
    · rw [rawWrite_vram _ _ _ g]; exact ⟨h1.write _ _ (by omega), h2, h3, h4, h5, h6, h7⟩
    · rw [rawWrite_sram _ _ _ g]; exact ⟨h1, h2, h3, h4, h5, h6.writeRam _ _, h7⟩
    · rw [rawWrite_wram _ _ _ g]; exact ⟨h1, h2.write _ _ (by omega), h3, h4, h5, h6, h7⟩
    · rw [rawWrite_echo _ _ _ g]; exact ⟨h1, h2.write _ _ (by omega), h3, h4, h5, h6, h7⟩
    · rw [rawWrite_oam _ _ _ g]; exact ⟨h1, h2, h3.write _ _ (by omega), h4, h5, h6, h7⟩
    · rw [rawWrite_prohibited _ _ _ g]; exact h
    · rw [rawWrite_io _ _ _ g]; exact ioWrite_memForm s _ v h
    · rw [rawWrite_hram _ _ _ g]; exact ⟨h1, h2, h3, h4.write _ _ (by omega), h5, h6, h7⟩
    · rw [rawWrite_ie _ _ _ g]; exact h

/-- A DMA M-cycle writes inside OAM. -/
theorem dmaM_memForm (s : State) (h : s.MemForm) : (dmaM s).MemForm := by
  obtain ⟨h1, h2, h3, h4, h5, h6, h7, h8⟩ := id h
  unfold dmaM
  split
  · rename_i ha
    have := h8 ha
    refine ⟨h1, h2, h3.write _ _ this, h4, h5, h6, ?_, ?_⟩
    · show s.dma.index + 1 ≤ 160
      omega
    · intro hx
      have : s.dma.index + 1 ≠ 160 := of_decide_eq_true hx
      show s.dma.index + 1 < 160
      omega
  · exact h

/-- A save flush changes no array. -/
theorem flushSave_memForm (s : State) (h : s.MemForm) : (flushSave s).MemForm := by
  unfold flushSave
  split <;> exact h

/-- The APU's M-cycle leaves wave RAM alone. -/
theorem apuM_waveRam (s : State) : (apuM s).apu.ch3.ram = s.apu.ch3.ram := by
  have seq : ∀ (a : Apu) (b : Bool), (a.sequencer b).ch3.ram = a.ch3.ram := by
    intro a b
    have sweep : ∀ a : Apu, a.clockSweep.ch3 = a.ch3 := by
      intro a
      unfold Apu.clockSweep
      dsimp only
      repeat' split
      all_goals rfl
    have frame : ∀ a : Apu, a.frameStep.ch3.ram = a.ch3.ram := by
      intro a
      unfold Apu.frameStep
      dsimp only
      have l : (if a.fsStep % 2 = 0 then a.clockLengths else a).ch3.ram = a.ch3.ram := by split <;> rfl
      generalize (if a.fsStep % 2 = 0 then a.clockLengths else a) = b at *
      have m : (if a.fsStep = 2 ∨ a.fsStep = 6 then b.clockSweep else b).ch3.ram = b.ch3.ram := by
        split
        · rw [sweep]
        · rfl
      generalize (if a.fsStep = 2 ∨ a.fsStep = 6 then b.clockSweep else b) = c at *
      have n : (if a.fsStep = 7 then c.clockEnvelopes else c).ch3.ram = c.ch3.ram := by split <;> rfl
      exact n.trans (m.trans l)
    unfold Apu.sequencer
    dsimp only
    split
    · exact frame a
    · rfl
  have tick : ∀ a : Apu, a.tickT.ch3.ram = a.ch3.ram := by
    intro a
    show a.ch3.tickT.ram = _
    unfold WaveChannel.tickT
    split <;> rfl
  rw [apuM_apu, tick, tick, tick, tick, seq]

end Sys2Proof.Machine
end

