-- ==== Sys2Proof/Laws/Frames.lean ====
section
/-! SUPPORT. What one store leaves alone, said once for memory, cartridge RAM and the devices. -/

namespace Sys2Proof.Machine

/-- A register write changes no memory, no cartridge and not IE. -/
theorem ioWrite_memories (s : State) (r : Nat) (v : Byte) :
    (ioWrite s r v).vram = s.vram ∧ (ioWrite s r v).wram = s.wram ∧ (ioWrite s r v).oam = s.oam ∧
    (ioWrite s r v).hram = s.hram ∧ (ioWrite s r v).intr.ie = s.intr.ie ∧ (ioWrite s r v).cart = s.cart := by
  obtain ⟨_, _, _, _, _, _, _, _, e⟩ := ioWrite_shape s r v
  rw [e]
  exact ⟨rfl, rfl, rfl, rfl, rfl, rfl⟩

/-- Where a plain address reads from. -/
theorem rawRead_plain (s : State) (b : Word) (h : plainAddress b) :
    rawRead s b =
      if b.toNat < 0xA000 then s.vram.read (b.toNat - 0x8000)
      else if cellOf b < 0xE000 then s.wram.read (cellOf b - 0xC000)
      else if b.toNat < 0xFEA0 then s.oam.read (b.toNat - 0xFE00)
      else if b.toNat < 0xFFFF then s.hram.read (b.toNat - 0xFF80)
      else s.intr.ie := by
  have hb := b.isLt
  unfold plainAddress at h
  rcases region_cases b with g | g | g | g | g | g | g | g | g | g
  · omega
  · rw [rawRead_vram _ _ g, if_pos (by omega)]
  · omega
  · rw [show cellOf b = b.toNat from if_neg (by omega), rawRead_wram _ _ g, if_neg (by omega), if_pos (by omega)]
  · rw [show cellOf b = b.toNat - 0x2000 from if_pos (by omega), rawRead_echo _ _ g, if_neg (by omega),
      if_pos (by omega), Nat.sub_sub]
  · rw [show cellOf b = b.toNat from if_neg (by omega), rawRead_oam _ _ g, if_neg (by omega), if_neg (by omega),
      if_pos (by omega)]
  · omega
  · omega
  · rw [show cellOf b = b.toNat from if_neg (by omega), rawRead_hram _ _ g, if_neg (by omega), if_neg (by omega),
      if_neg (by omega), if_pos (by omega)]
  · rw [show cellOf b = b.toNat from if_neg (by omega), rawRead_ie _ _ g, if_neg (by omega), if_neg (by omega),
      if_neg (by omega), if_neg (by omega)]

/-- A store leaves every other plain cell alone. -/
theorem busWrite_plain (s : State) (a : Word) (v : Byte) (b : Word) (hp : plainAddress b) (h : cellOf a ≠ cellOf b) :
    rawRead (busWrite s a v) b = rawRead s b := by
  rcases busWrite_cases s a v with e | e <;> rw [e]
  rw [rawRead_plain _ _ hp, rawRead_plain _ _ hp]
  have hb := b.isLt
  have ha := a.isLt
  unfold plainAddress at hp
  obtain ⟨i1, i2, i3, i4, i5, -⟩ := ioWrite_memories s (a.toNat - 0xFF00) v
  have hcb : cellOf b = if 0xE000 ≤ b.toNat ∧ b.toNat < 0xFE00 then b.toNat - 0x2000 else b.toNat := rfl
  have hca : cellOf a = if 0xE000 ≤ a.toNat ∧ a.toNat < 0xFE00 then a.toNat - 0x2000 else a.toNat := rfl
  rcases region_cases a with g | g | g | g | g | g | g | g | g | g
  · rw [rawWrite_rom _ _ _ g]
  · rw [rawWrite_vram _ _ _ g]; dsimp only
    split
    · rw [if_neg (by omega)] at hca; rw [if_neg (by omega)] at hcb; exact Memory.read_write_ne _ _ _ _ (by omega)
    · rfl
  · rw [rawWrite_sram _ _ _ g]
  · rw [rawWrite_wram _ _ _ g]; dsimp only
    split
    · rfl
    · split
      · rw [if_neg (by omega)] at hca; exact Memory.read_write_ne _ _ _ _ (by split at hcb <;> omega)
      · rfl
  · rw [rawWrite_echo _ _ _ g]; dsimp only
    split
    · rfl
    · split
      · rw [if_pos (by omega)] at hca; exact Memory.read_write_ne _ _ _ _ (by split at hcb <;> omega)
      · rfl
  · rw [rawWrite_oam _ _ _ g]; dsimp only
    split
    · rfl
    · split
      · rfl
      · split
        · rw [if_neg (by omega)] at hca; exact Memory.read_write_ne _ _ _ _ (by split at hcb <;> omega)
        · rfl
  · rw [rawWrite_prohibited _ _ _ g]
  · rw [rawWrite_io _ _ _ g, i1, i2, i3, i4, i5]
  · rw [rawWrite_hram _ _ _ g]; dsimp only
    split
    · rfl
    · split
      · rfl
      · split
        · rfl
        · split
          · rw [if_neg (by omega)] at hca; exact Memory.read_write_ne _ _ _ _ (by split at hcb <;> omega)
          · rfl
  · rw [rawWrite_ie _ _ _ g]; dsimp only
    split
    · rfl
    · split
      · rfl
      · split
        · rfl
        · split
          · rfl
          · rw [if_neg (by omega)] at hca; rw [if_neg (by omega)] at hcb; omega

/-- A store leaves every cartridge RAM cell alone that the bank logic does not select for it. -/
theorem busWrite_cartRam (s : State) (a : Word) (v : Byte) (j : Nat)
    (h : 0xA000 ≤ a.toNat → a.toNat < 0xC000 → s.cart.ramIndex a.toNat ≠ some j) :
    (busWrite s a v).cart.ram.read j = s.cart.ram.read j := by
  rcases busWrite_cases s a v with e | e <;> rw [e]
  rw [rawWrite_cart]
  split
  · rfl
  · split
    · rename_i hx
      have := h hx.1 hx.2
      unfold Cart.writeRam
      split
      · rename_i i hi; rw [hi] at this
        exact Memory.read_write_ne _ _ _ _ (fun h => this (by rw [h]))
      · rfl
    · rfl

/-- Only a store to ROM addresses moves the banks. -/
theorem busWrite_ramIndex (s : State) (a b : Word) (v : Byte) (h : ¬a.toNat < 0x8000) :
    (busWrite s a v).cart.ramIndex b.toNat = s.cart.ramIndex b.toNat := by
  rcases busWrite_cases s a v with e | e <;> rw [e]
  rw [rawWrite_cart, if_neg h]
  split
  · unfold Cart.writeRam; split <;> rfl
  · rfl

/-- A device changes only through a store to one of its registers. -/
theorem busWrite_devices (s : State) (a : Word) (v : Byte) :
   let t := busWrite s a v
   (a.toNat ≠ 0xFF00 → t.joypad = s.joypad) ∧ (¬(0xFF01 ≤ a.toNat ∧ a.toNat ≤ 0xFF02) → t.serial = s.serial) ∧
    (¬(0xFF04 ≤ a.toNat ∧ a.toNat ≤ 0xFF07) → t.timer = s.timer) ∧ (¬(0xFF10 ≤ a.toNat ∧ a.toNat ≤ 0xFF3F) → t.apu =
        s.apu) ∧
    (¬(0xFF40 ≤ a.toNat ∧ a.toNat ≤ 0xFF45) → ¬(0xFF47 ≤ a.toNat ∧ a.toNat ≤ 0xFF4B) → t.ppu = s.ppu) ∧
    (a.toNat ≠ 0xFF46 → t.dma = s.dma) ∧ (a.toNat ≠ 0xFF50 → t.boot = s.boot) ∧
    (a.toNat ≠ 0xFF0F → ¬(0xFF40 ≤ a.toNat ∧ a.toNat ≤ 0xFF45) → t.intr.iflag = s.intr.iflag) ∧
    (a.toNat ≠ 0xFFFF → t.intr.ie = s.intr.ie) ∧ (¬ (a.toNat ≤ 0x7FFF) → t.cart.mbc = s.cart.mbc) ∧
    (¬ (0xA000 ≤ a.toNat ∧ a.toNat ≤ 0xBFFF) → t.cart.dirty = s.cart.dirty) ∧
    (¬(0xFF30 ≤ a.toNat ∧ a.toNat ≤ 0xFF3F) → t.apu.ch3.ram = s.apu.ch3.ram) := by
  dsimp only
  rcases busWrite_cases s a v with e | e <;> rw [e]
  · simp
  rcases region_cases a with g | g | g | g | g | g | g | g | g | g
  · rw [rawWrite_rom _ _ _ g]; exact ⟨fun _ => rfl, fun _ => rfl, fun _ => rfl, fun _ => rfl, fun _ _ => rfl, fun _ =>
      rfl, fun _ => rfl, fun _ _ => rfl, fun _ => rfl, fun _ => by omega, fun _ => rfl, fun _ => rfl⟩
  · rw [rawWrite_vram _ _ _ g]; simp
  · rw [rawWrite_sram _ _ _ g]; refine ⟨fun _ => rfl, fun _ => rfl, fun _ => rfl, fun _ => rfl, fun _ _ => rfl, fun _
      => rfl, fun _ => rfl, fun _ _ => rfl, fun _ => rfl, fun _ => ?_, fun _ => by omega, fun _ => rfl⟩
    exact (s.cart.writeRam_fixed a.toNat v).2.2.2.2.2
  · rw [rawWrite_wram _ _ _ g]; simp
  · rw [rawWrite_echo _ _ _ g]; simp
  · rw [rawWrite_oam _ _ _ g]; simp
  · rw [rawWrite_prohibited _ _ _ g]; simp
  · rw [rawWrite_io _ _ _ g]
    have hr : a.toNat = 0xFF00 + (a.toNat - 0xFF00) := by omega
    generalize a.toNat - 0xFF00 = r at *
    rw [hr]
    have hst : ∀ p, (statUpdate { s with ppu := p }).joypad = s.joypad ∧ (statUpdate { s with ppu := p }).serial =
        s.serial ∧ (statUpdate { s with ppu := p }).timer = s.timer ∧ (statUpdate { s with ppu := p }).apu = s.apu ∧
        (statUpdate { s with ppu := p }).dma = s.dma ∧ (statUpdate { s with ppu := p }).boot = s.boot ∧ (statUpdate {
        s with ppu := p }).intr.ie = s.intr.ie ∧ (statUpdate { s with ppu := p }).cart = s.cart := by
      intro p; unfold statUpdate; dsimp only; split <;> exact ⟨rfl, rfl, rfl, rfl, rfl, rfl, rfl, rfl⟩
    unfold ioWrite
    split
    case h_9 => obtain ⟨q1,q2,q3,q4,q5,q6,q7,q8⟩ := hst (s.ppu.writeLcdc v); rw [q1,q2,q3,q4,q5,q6,q7,q8]; simp
    case h_10 => obtain ⟨q1,q2,q3,q4,q5,q6,q7,q8⟩ := hst (s.ppu.writeStat v); rw [q1,q2,q3,q4,q5,q6,q7,q8]; simp
    case h_13 => obtain ⟨q1,q2,q3,q4,q5,q6,q7,q8⟩ := hst { s.ppu with lyc := v }; rw [q1,q2,q3,q4,q5,q6,q7,q8]; simp
    case h_21 =>
      split
      · rename_i hx
        refine ⟨fun _ => rfl, fun _ => rfl, fun _ => rfl, fun _ => by omega, fun _ _ => rfl, fun _ => rfl, fun _ =>
            rfl, fun _ _ => rfl, fun _ => rfl, fun _ => rfl, fun _ => rfl, fun hy => ?_⟩
        show (s.apu.write r v).ch3.ram = _
        unfold Apu.write
        rw [if_neg (by omega)]
        split
        · unfold Apu.writeNr52; split
          · split <;> rfl
          · rfl
        · split
          · unfold Apu.writePowered
            split
            case h_5 => dsimp only; split <;> rfl
            case h_14 => dsimp only; split <;> rfl
            all_goals rfl
          · rfl
      · simp
    all_goals simp
  · rw [rawWrite_hram _ _ _ g]; simp
  · rw [rawWrite_ie _ _ _ g]; refine ⟨fun _ => rfl, fun _ => rfl, fun _ => rfl, fun _ => rfl, fun _ _ => rfl, fun _ =>
      rfl, fun _ => rfl, fun _ _ => rfl, fun _ => by omega, fun _ => rfl, fun _ => rfl, fun _ => rfl⟩

end Sys2Proof.Machine
end

