-- ==== Sys2Proof/Laws/Ppu.lean ====
section
/-! SUPPORT. The PPU's position, the bounds of a line's sprite list, of the sprite rows drawn and of mode 3 length,
and what a dot leaves of the registers. -/

namespace Sys2Proof.Machine

/-! ### Bounds (R784, R787) -/

/-- At most ten sprites on a line. -/
theorem oamScan_length (oam : Memory) (ly h : Nat) : (oamScan oam ly h).length ≤ 10 := by
  unfold oamScan
  simp

/-- 172 ≤ L ≤ 289, under the formula and under the free function alike. -/
theorem mode3Length_bounds (policy : Mode3Len) (p : Ppu) (h : p.sprites.length ≤ 10) :
    172 ≤ mode3Length policy p ∧ mode3Length policy p ≤ 289 := by
  unfold mode3Length
  cases policy
  · dsimp only
    have := Nat.mod_lt p.scx.toNat (show 0 < 8 by decide)
    split <;> omega
  · dsimp only
    generalize Config.mode3LenFree _ _ _ = x
    omega

/-- While LCDC bit 2 stays as it was at the scan, every row drawn is one of the sprite's own (R787, R789). -/
theorem Ppu.spriteRow_range (p : Ppu) (sp : Sprite) (h : sp.onLine p.ly.toNat p.objHeight = true) :
    0 ≤ p.spriteRow sp ∧ p.spriteRow sp < p.objHeight := by
  simp only [Sprite.onLine, Bool.and_eq_true, decide_eq_true_eq] at h
  unfold Ppu.spriteRow
  dsimp only
  split <;> omega

/-! ### Position (R780) -/

/-- The three ways the position can move. -/
theorem advanceDot_cases (s : State) :
    (s.ppu.dot + 1 ≠ 456 ∧ advanceDot s = { s with ppu := { s.ppu with dot := s.ppu.dot + 1 } }) ∨
    (s.ppu.dot + 1 = 456 ∧ s.ppu.ly ≠ 153 ∧ advanceDot s = { s with ppu := { s.ppu with dot := 0, ly := s.ppu.ly + 1 } }) ∨
    (s.ppu.dot + 1 = 456 ∧ s.ppu.ly = 153 ∧ advanceDot s = frameDone { s with ppu := { s.ppu with dot := 0, ly := 0 } }) := by
  unfold advanceDot
  by_cases h : s.ppu.dot + 1 = 456
  · by_cases g : s.ppu.ly = 153
    · rw [if_pos h, if_pos g]
      exact .inr (.inr ⟨h, g, rfl⟩)
    · rw [if_pos h, if_neg g]
      exact .inr (.inl ⟨h, g, rfl⟩)
  · rw [if_neg h]
    exact .inl ⟨h, rfl⟩

/-- Only the position part of a dot moves LY and dot, and no part touches LCDC or LYC. -/
theorem enterMode_position (m : Mode) (s : State) :
    (enterMode m s).ppu.ly = s.ppu.ly ∧ (enterMode m s).ppu.dot = s.ppu.dot ∧ (enterMode m s).ppu.mode = s.ppu.mode ∧
    (enterMode m s).ppu.lcdc = s.ppu.lcdc ∧ (enterMode m s).ppu.lyc = s.ppu.lyc := by
  cases m
  · unfold enterMode enterHblank
    dsimp only
    split <;> exact ⟨rfl, rfl, rfl, rfl, rfl⟩
  all_goals exact ⟨rfl, rfl, rfl, rfl, rfl⟩

theorem updateMode_position (s : State) :
    (updateMode s).ppu.ly = s.ppu.ly ∧ (updateMode s).ppu.dot = s.ppu.dot ∧ (updateMode s).ppu.lcdc = s.ppu.lcdc ∧
    (updateMode s).ppu.lyc = s.ppu.lyc := by
  unfold updateMode
  dsimp only
  split
  · exact ⟨rfl, rfl, rfl, rfl⟩
  · obtain ⟨h1, h2, -, h3, h4⟩ := enterMode_position (modeOf s.ppu.ly s.ppu.dot s.ppu.mode3Len)
      { s with ppu := { s.ppu with mode := modeOf s.ppu.ly s.ppu.dot s.ppu.mode3Len } }
    exact ⟨h1, h2, h3, h4⟩

theorem renderDot_position (s : State) :
    (renderDot s).ppu.ly = s.ppu.ly ∧ (renderDot s).ppu.dot = s.ppu.dot ∧ (renderDot s).ppu.lcdc = s.ppu.lcdc ∧
    (renderDot s).ppu.lyc = s.ppu.lyc ∧ (renderDot s).ppu.mode = s.ppu.mode := by
  unfold renderDot
  dsimp only
  split <;> exact ⟨rfl, rfl, rfl, rfl, rfl⟩

@[simp] theorem Ppu.latchLevels_ly (p : Ppu) : p.latchLevels.ly = p.ly := rfl
@[simp] theorem Ppu.latchLevels_dot (p : Ppu) : p.latchLevels.dot = p.dot := rfl
@[simp] theorem Ppu.latchLevels_lcdc (p : Ppu) : p.latchLevels.lcdc = p.lcdc := rfl
@[simp] theorem Ppu.latchLevels_mode (p : Ppu) : p.latchLevels.mode = p.mode := rfl

/-- A dot with the LCD on moves the position as `advanceDot` does, completes the frames it completes, and leaves LCDC
and LYC. -/
theorem ppuDot_position (s : State) (h : s.ppu.lcdOn = true) :
    (ppuDot s).ppu.ly = (advanceDot s).ppu.ly ∧ (ppuDot s).ppu.dot = (advanceDot s).ppu.dot ∧
    (ppuDot s).ppu.lcdc = s.ppu.lcdc ∧ (ppuDot s).host.framesDone = (advanceDot s).host.framesDone := by
  have hd : ppuDot s = statUpdate (renderDot (updateMode (advanceDot s))) := by
    unfold ppuDot
    rw [if_pos h]
  have hc : (advanceDot s).ppu.lcdc = s.ppu.lcdc := by
    rcases advanceDot_cases s with ⟨-, e⟩ | ⟨-, -, e⟩ | ⟨-, -, e⟩ <;> rw [e]
    rfl
  have st := statUpdate_fixed (renderDot (updateMode (advanceDot s)))
  have rp := renderDot_position (updateMode (advanceDot s))
  have up := updateMode_position (advanceDot s)
  have rh := (renderDot_fixed (updateMode (advanceDot s))).2.2.2.2.1
  have uh := (updateMode_fixed (advanceDot s)).2.2.2.2
  rw [hd, st.2.2.2.2.2, st.2.2.2.2.1, rh, uh, Ppu.latchLevels_ly, Ppu.latchLevels_dot, Ppu.latchLevels_lcdc, rp.1, rp.2.1,
    rp.2.2.1, up.1, up.2.1, up.2.2.1, hc]
  exact ⟨rfl, rfl, rfl, rfl⟩

/-- With the LCD off a dot does nothing. -/
theorem ppuDot_off (s : State) (h : s.ppu.lcdOn = false) : ppuDot s = s := by
  unfold ppuDot
  rw [h]
  rfl

end Sys2Proof.Machine
end

