-- ==== Sys2Proof/Laws/Step.lean ====
section
/-! SUPPORT. What a step can do, said once: a property kept by each piece a step is made of is kept by every step; and
the equations of the step. -/

namespace Sys2Proof.Machine

/-- A property that each piece of a step keeps: CPU and cycle counts, one bus write, one T-cycle, DMA M-cycle, dot or APU
M-cycle, a change of IF, of the joypad, of the host's event queue, and a save flush. -/
structure Kept (P : State → Prop) : Prop where
  cpu : ∀ s c n m, P s → P { s with cpu := c, opCycles := n, masterCycles := m }
  write : ∀ s a v, P s → P (busWrite s a v)
  timer : ∀ s, P s → P (timerT s)
  dma : ∀ s, P s → P (dmaM s)
  ppu : ∀ s, P s → P (ppuDot s)
  apu : ∀ s, P s → P (apuM s)
  iflag : ∀ s f, P s → P { s with intr := { s.intr with iflag := f } }
  joypad : ∀ s j, P s → P { s with joypad := j }
  events : ∀ s e, P s → P { s with host := { s.host with events := e } }
  flush : ∀ s, P s → P (flushSave s)

namespace Kept

variable {P : State → Prop} (K : Kept P)
include K

theorem setCpu (s : State) (c : Cpu) (h : P s) : P { s with cpu := c } := K.cpu s c s.opCycles s.masterCycles h

theorem spend (s : State) (n : Nat) (h : P s) : P (s.spend n) := K.cpu s s.cpu n s.masterCycles h

theorem mCycle (s : State) (h : P s) : P (mCycle s) :=
  K.apu _ (K.ppu _ (K.ppu _ (K.ppu _ (K.ppu _ (K.dma _ (K.timer _ (K.timer _ (K.timer _ (K.timer _ h)))))))))

theorem tick (n : Nat) (s : State) (h : P s) : P (tick n s) := by
  induction n generalizing s with
  | zero => exact h
  | succ n ih => exact ih _ (K.mCycle s h)

theorem joypadUpdate (s : State) (ev : JoyEvent) (h : P s) : P (joypadUpdate s ev) := by
  unfold Machine.joypadUpdate
  dsimp only
  split
  · exact K.iflag _ _ (K.joypad _ _ h)
  · exact K.joypad _ _ h

theorem pollJoypad (s : State) (h : P s) : P (pollJoypad s) := by
  have : ∀ (evs : List JoyEvent) (t : State), P t → P (evs.foldl Machine.joypadUpdate t) := by
    intro evs
    induction evs with
    | nil => exact fun _ h => h
    | cons ev evs ih => exact fun t h => ih _ (K.joypadUpdate t ev h)
  exact this _ _ (K.events s [] h)

theorem stores (ws : List (Word × Byte)) (s : State) (h : P s) : P (stores ws s) := stores_keeps P K.write ws s h

theorem exec (i : Instr) (s t : State) (h : P s) (e : exec i s = .next t) : P t := by
  obtain ⟨ws, c, n, -, e'⟩ := exec_effect i s
  rw [e'] at e
  cases e
  exact K.cpu _ _ _ _ (K.stores ws s h)

theorem imeLatch (was : Bool) (s : State) (h : P s) : P (imeLatch was s) := by
  unfold Machine.imeLatch
  split
  · exact K.setCpu _ _ (K.setCpu _ _ h)
  · exact h

theorem takeInterrupt (s : State) (k : Nat) (h : P s) : P (takeInterrupt s k) := by
  rw [takeInterrupt_eq]
  exact K.setCpu _ _ (K.stores _ _ (K.iflag _ _ h))

theorem evaluateInterrupts (s : State) (h : P s) : P (evaluateInterrupts s).1 := by
  unfold Machine.evaluateInterrupts
  split
  · exact h
  · split
    · exact K.tick _ _ (K.takeInterrupt _ _ (K.setCpu _ _ h))
    · exact K.setCpu _ _ h

theorem saveFlush (frames : Nat) (s : State) (h : P s) : P (saveFlush frames s) := by
  unfold Machine.saveFlush
  split
  · exact K.flush s h
  · exact h

theorem finishStep (was : Bool) (frames : Nat) (s : State) (h : P s) : P (finishStep was frames s) :=
  K.saveFlush _ _ (K.cpu _ _ _ _ (K.evaluateInterrupts _ (K.tick _ _ (K.imeLatch _ _ h))))

/-- A property each piece keeps is kept by the step. -/
theorem step (s t : State) (h : P s) (e : step s = .next t) : P t := by
  have runCpu : ∀ r u, P r → runCpu r = .next u → P u := by
    intro r u hr he
    unfold Machine.runCpu at he
    split at he
    · exact K.exec _ _ _ (K.setCpu _ _ hr) he
    · cases he; exact K.spend _ _ hr
    · cases he; exact K.spend _ _ hr
  unfold Machine.step enabledStep at e
  split at e
  · cases e
  · unfold runStep afterCpu at e
    dsimp only at e
    split at e
    · rename_i u hu
      have hp := runCpu _ _ (K.pollJoypad s h) hu
      split at e
      · cases e; exact hp
      · cases e; exact K.finishStep _ _ _ hp
    · cases e
    · cases e

end Kept

/-! ### The equations of the step -/

/-- An instruction always answers a next state. -/
theorem exec_next (i : Instr) (s : State) : ∃ t, exec i s = .next t := by
  obtain ⟨ws, c, n, -, e⟩ := exec_effect i s
  exact ⟨_, e⟩

theorem runCpu_running (s : State) (h : s.cpu.halt = .running) : runCpu s = execute s := by
  simp only [runCpu, h]

theorem runCpu_idle (s : State) (h : s.cpu.halt ≠ .running) : runCpu s = .next (s.spend 1) := by
  unfold runCpu
  split
  · exact absurd ‹_› h
  · rfl
  · rfl

theorem runCpu_next (s : State) : ∃ t, runCpu s = .next t := by
  by_cases h : s.cpu.halt = .running
  · rw [runCpu_running s h]
    exact exec_next _ _
  · exact ⟨_, runCpu_idle s h⟩

theorem step_fatal (s : State) (x : Byte × Word) (h : s.cpu.fatal = some x) : step s = .fault (.fatal x.1 x.2) := by
  simp only [step, enabledStep, h]

theorem step_live (s : State) (h : s.cpu.fatal = none) :
    step s = afterCpu (pollJoypad s).cpu.imePending (pollJoypad s).host.framesDone (runCpu (pollJoypad s)) := by
  simp only [step, enabledStep, h, runStep]

end Sys2Proof.Machine
end

