-- ==== Sys2Proof/Tests/Slice0.lean ====
section
/-! SUPPORT. The model's own tests: the well-formedness smoke test, the words of every row, vectors of
spec/95_test_vectors.md (their numbers are named), and witnesses that the statements' hypotheses can be met. -/

namespace Sys2Proof.Tests

open Sys2Proof Sys2Proof.Machine Sys2Proof.Claims

/-! ### Helpers -/

/-- Sixteen consecutive opcode bytes. -/
def row (hi : Nat) : List Byte := (List.range 16).map fun k => BitVec.ofNat 8 (hi + k)

/-- The next state, if there is one. -/
def next? (r : Result) : Option State :=
  match r with
  | .next t => some t
  | .fault _ => none
  | .refused _ => none

/-- The reset state with A, B and F given. -/
def withAB (a b f : Byte) : State := ((State.reset.setReg .a a).setReg .b b).setFlags (Flags.ofByte f)

/-- The reset state with a pair (or SP) and F given. -/
def withPair (p : Pair) (v : Word) (f : Byte) : State := (State.reset.setPair p v).setFlags (Flags.ofByte f)

/-- The reset state with HL = 0xC000 and the byte there. -/
def withHl (v f : Byte) : State := rawWrite (withPair .hl 0xC000 f) 0xC000 v

/-- A, F and the M-cycles after an instruction. -/
def afc (i : Instr) (s : State) : Option (Byte × Byte × Nat) :=
  (next? (exec i s)).map fun t => (t.cpu.a, t.cpu.f.toByte, t.opCycles)

/-- B, F and the M-cycles after an instruction. -/
def bfc (i : Instr) (s : State) : Option (Byte × Byte × Nat) :=
  (next? (exec i s)).map fun t => (t.cpu.b, t.cpu.f.toByte, t.opCycles)

/-- The byte at 0xC000, F and the M-cycles after an instruction. -/
def mfc (i : Instr) (s : State) : Option (Byte × Byte × Nat) :=
  (next? (exec i s)).map fun t => (rawRead t 0xC000, t.cpu.f.toByte, t.opCycles)

/-- A pair (or SP), F and the M-cycles after an instruction. -/
def pfc (p : Pair) (i : Instr) (s : State) : Option (Word × Byte × Nat) :=
  (next? (exec i s)).map fun t => (t.pair p, t.cpu.f.toByte, t.opCycles)

/-- PC, SP and the M-cycles after an instruction. -/
def flow (i : Instr) (s : State) : Option (Word × Word × Nat) :=
  (next? (exec i s)).map fun t => (t.cpu.pc, t.cpu.sp, t.opCycles)

/-- The reset state with PC, SP and F given; 0x0403 on the stack at 0xFFFC. -/
def control (pc sp : Word) (f : Byte) : State :=
  rawWrite (rawWrite (((State.reset.setPc pc).setSp sp).setFlags (Flags.ofByte f)) 0xFFFC 0x03) 0xFFFD 0x04

/-! ### Well-formedness and the decoder's refusals -/

theorem test_wf_refuses_bare_cb : (Instr.prefixCb 0x37).wf = false ∧ Instr.swapA.wf = true := by decide

theorem test_cb_bytes_decode_to_the_cb_row : decode [0xCB, 0x37] = .ok (.swapA, []) := by decide

theorem test_decode_refuses_by_name :
    decode [] = .error .empty ∧ decode [0x3E] = .error (.truncated 0x3E) ∧ decode [0xC3, 0x50] = .error (.truncated 0xC3) := by
  decide

theorem test_table_words :
    decodeTableWord 8 0x41 = some .ldBC ∧ decodeTableWord 16 0xCB7C = some .bit7H ∧ decodeTableWord 8 0xC3 = some (.jpA16 0) ∧
      decodeTableWord 8 0xCB = some .rlcB := by decide

/-! ### Decoding: every row of spec/opcode_table.json, by its word (R240, R241)

Each primary opcode is followed by 0x34 and 0x12, so that a d8, a8 or e8 operand is 0x34 and a d16 or a16 operand 0x1234
(R236); the lengths are the table's. The word 0xCB is followed by 0x02, the row `RLC D`. -/

theorem test_decode_row_0 : (row 0x00).map (fun b => decode3 b (if b = 0xCB then 0x02 else 0x34) 0x12) =
    [.nop, .ldBcD16 0x1234, .ldAtBcA, .incBc, .incB, .decB, .ldBD8 0x34, .rlca, .ldAtA16Sp 0x1234, .addHlBc,
     .ldAAtBc, .decBc, .incC, .decC, .ldCD8 0x34, .rrca] := by decide

theorem test_length_row_0 : (row 0x00).map (fun b => (decode3 b 0x34 0x12).length) =
    [1, 3, 1, 1, 1, 1, 2, 1, 3, 1, 1, 1, 1, 1, 2, 1] := by decide

theorem test_decode_row_1 : (row 0x10).map (fun b => decode3 b (if b = 0xCB then 0x02 else 0x34) 0x12) =
    [.stop 0x34, .ldDeD16 0x1234, .ldAtDeA, .incDe, .incD, .decD, .ldDD8 0x34, .rla, .jrE8 0x34, .addHlDe, .ldAAtDe,
     .decDe, .incE, .decE, .ldED8 0x34, .rra] := by decide

theorem test_length_row_1 : (row 0x10).map (fun b => (decode3 b 0x34 0x12).length) =
    [2, 3, 1, 1, 1, 1, 2, 1, 2, 1, 1, 1, 1, 1, 2, 1] := by decide

theorem test_decode_row_2 : (row 0x20).map (fun b => decode3 b (if b = 0xCB then 0x02 else 0x34) 0x12) =
    [.jrNzE8 0x34, .ldHlD16 0x1234, .ldAtHliA, .incHl, .incH, .decH, .ldHD8 0x34, .daa, .jrZE8 0x34, .addHlHl,
     .ldAAtHli, .decHl, .incL, .decL, .ldLD8 0x34, .cpl] := by decide

theorem test_length_row_2 : (row 0x20).map (fun b => (decode3 b 0x34 0x12).length) =
    [2, 3, 1, 1, 1, 1, 2, 1, 2, 1, 1, 1, 1, 1, 2, 1] := by decide

theorem test_decode_row_3 : (row 0x30).map (fun b => decode3 b (if b = 0xCB then 0x02 else 0x34) 0x12) =
    [.jrNcE8 0x34, .ldSpD16 0x1234, .ldAtHldA, .incSp, .incAtHl, .decAtHl, .ldAtHlD8 0x34, .scf, .jrCE8 0x34,
     .addHlSp, .ldAAtHld, .decSp, .incA, .decA, .ldAD8 0x34, .ccf] := by decide

theorem test_length_row_3 : (row 0x30).map (fun b => (decode3 b 0x34 0x12).length) =
    [2, 3, 1, 1, 1, 1, 2, 1, 2, 1, 1, 1, 1, 1, 2, 1] := by decide

theorem test_decode_row_4 : (row 0x40).map (fun b => decode3 b (if b = 0xCB then 0x02 else 0x34) 0x12) =
    [.ldBB, .ldBC, .ldBD, .ldBE, .ldBH, .ldBL, .ldBAtHl, .ldBA, .ldCB, .ldCC, .ldCD, .ldCE, .ldCH, .ldCL, .ldCAtHl,
     .ldCA] := by decide

theorem test_length_row_4 : (row 0x40).map (fun b => (decode3 b 0x34 0x12).length) =
    [1, 1, 1, 1, 1, 1, 1, 1, 1, 1, 1, 1, 1, 1, 1, 1] := by decide

theorem test_decode_row_5 : (row 0x50).map (fun b => decode3 b (if b = 0xCB then 0x02 else 0x34) 0x12) =
    [.ldDB, .ldDC, .ldDD, .ldDE, .ldDH, .ldDL, .ldDAtHl, .ldDA, .ldEB, .ldEC, .ldED, .ldEE, .ldEH, .ldEL, .ldEAtHl,
     .ldEA] := by decide

theorem test_length_row_5 : (row 0x50).map (fun b => (decode3 b 0x34 0x12).length) =
    [1, 1, 1, 1, 1, 1, 1, 1, 1, 1, 1, 1, 1, 1, 1, 1] := by decide

theorem test_decode_row_6 : (row 0x60).map (fun b => decode3 b (if b = 0xCB then 0x02 else 0x34) 0x12) =
    [.ldHB, .ldHC, .ldHD, .ldHE, .ldHH, .ldHL, .ldHAtHl, .ldHA, .ldLB, .ldLC, .ldLD, .ldLE, .ldLH, .ldLL, .ldLAtHl,
     .ldLA] := by decide

theorem test_length_row_6 : (row 0x60).map (fun b => (decode3 b 0x34 0x12).length) =
    [1, 1, 1, 1, 1, 1, 1, 1, 1, 1, 1, 1, 1, 1, 1, 1] := by decide

theorem test_decode_row_7 : (row 0x70).map (fun b => decode3 b (if b = 0xCB then 0x02 else 0x34) 0x12) =
    [.ldAtHlB, .ldAtHlC, .ldAtHlD, .ldAtHlE, .ldAtHlH, .ldAtHlL, .halt, .ldAtHlA, .ldAB, .ldAC, .ldAD, .ldAE, .ldAH,
     .ldAL, .ldAAtHl, .ldAA] := by decide

theorem test_length_row_7 : (row 0x70).map (fun b => (decode3 b 0x34 0x12).length) =
    [1, 1, 1, 1, 1, 1, 1, 1, 1, 1, 1, 1, 1, 1, 1, 1] := by decide

theorem test_decode_row_8 : (row 0x80).map (fun b => decode3 b (if b = 0xCB then 0x02 else 0x34) 0x12) =
    [.addAB, .addAC, .addAD, .addAE, .addAH, .addAL, .addAAtHl, .addAA, .adcAB, .adcAC, .adcAD, .adcAE, .adcAH,
     .adcAL, .adcAAtHl, .adcAA] := by decide

theorem test_length_row_8 : (row 0x80).map (fun b => (decode3 b 0x34 0x12).length) =
    [1, 1, 1, 1, 1, 1, 1, 1, 1, 1, 1, 1, 1, 1, 1, 1] := by decide

theorem test_decode_row_9 : (row 0x90).map (fun b => decode3 b (if b = 0xCB then 0x02 else 0x34) 0x12) =
    [.subB, .subC, .subD, .subE, .subH, .subL, .subAtHl, .subA, .sbcAB, .sbcAC, .sbcAD, .sbcAE, .sbcAH, .sbcAL,
     .sbcAAtHl, .sbcAA] := by decide

theorem test_length_row_9 : (row 0x90).map (fun b => (decode3 b 0x34 0x12).length) =
    [1, 1, 1, 1, 1, 1, 1, 1, 1, 1, 1, 1, 1, 1, 1, 1] := by decide

theorem test_decode_row_A : (row 0xA0).map (fun b => decode3 b (if b = 0xCB then 0x02 else 0x34) 0x12) =
    [.andB, .andC, .andD, .andE, .andH, .andL, .andAtHl, .andA, .xorB, .xorC, .xorD, .xorE, .xorH, .xorL, .xorAtHl,
     .xorA] := by decide

theorem test_length_row_A : (row 0xA0).map (fun b => (decode3 b 0x34 0x12).length) =
    [1, 1, 1, 1, 1, 1, 1, 1, 1, 1, 1, 1, 1, 1, 1, 1] := by decide

theorem test_decode_row_B : (row 0xB0).map (fun b => decode3 b (if b = 0xCB then 0x02 else 0x34) 0x12) =
    [.orB, .orC, .orD, .orE, .orH, .orL, .orAtHl, .orA, .cpB, .cpC, .cpD, .cpE, .cpH, .cpL, .cpAtHl, .cpA] := by decide

theorem test_length_row_B : (row 0xB0).map (fun b => (decode3 b 0x34 0x12).length) =
    [1, 1, 1, 1, 1, 1, 1, 1, 1, 1, 1, 1, 1, 1, 1, 1] := by decide

theorem test_decode_row_C : (row 0xC0).map (fun b => decode3 b (if b = 0xCB then 0x02 else 0x34) 0x12) =
    [.retNz, .popBc, .jpNzA16 0x1234, .jpA16 0x1234, .callNzA16 0x1234, .pushBc, .addAD8 0x34, .rst00, .retZ, .ret,
     .jpZA16 0x1234, .rlcD, .callZA16 0x1234, .callA16 0x1234, .adcAD8 0x34, .rst08] := by decide

theorem test_length_row_C : (row 0xC0).map (fun b => (decode3 b 0x34 0x12).length) =
    [1, 1, 3, 3, 3, 1, 2, 1, 1, 1, 3, 2, 3, 3, 2, 1] := by decide

theorem test_decode_row_D : (row 0xD0).map (fun b => decode3 b (if b = 0xCB then 0x02 else 0x34) 0x12) =
    [.retNc, .popDe, .jpNcA16 0x1234, .undefinedD3, .callNcA16 0x1234, .pushDe, .subD8 0x34, .rst10, .retC, .reti,
     .jpCA16 0x1234, .undefinedDB, .callCA16 0x1234, .undefinedDD, .sbcAD8 0x34, .rst18] := by decide

theorem test_length_row_D : (row 0xD0).map (fun b => (decode3 b 0x34 0x12).length) =
    [1, 1, 3, 1, 3, 1, 2, 1, 1, 1, 3, 1, 3, 1, 2, 1] := by decide

theorem test_decode_row_E : (row 0xE0).map (fun b => decode3 b (if b = 0xCB then 0x02 else 0x34) 0x12) =
    [.ldhAtA8A 0x34, .popHl, .ldAtCA, .undefinedE3, .undefinedE4, .pushHl, .andD8 0x34, .rst20, .addSpE8 0x34, .jpHl,
     .ldAtA16A 0x1234, .undefinedEB, .undefinedEC, .undefinedED, .xorD8 0x34, .rst28] := by decide

theorem test_length_row_E : (row 0xE0).map (fun b => (decode3 b 0x34 0x12).length) =
    [2, 1, 1, 1, 1, 1, 2, 1, 2, 1, 3, 1, 1, 1, 2, 1] := by decide

theorem test_decode_row_F : (row 0xF0).map (fun b => decode3 b (if b = 0xCB then 0x02 else 0x34) 0x12) =
    [.ldhAAtA8 0x34, .popAf, .ldAAtC, .di, .undefinedF4, .pushAf, .orD8 0x34, .rst30, .ldHlSpE8 0x34, .ldSpHl,
     .ldAAtA16 0x1234, .ei, .undefinedFC, .undefinedFD, .cpD8 0x34, .rst38] := by decide

theorem test_length_row_F : (row 0xF0).map (fun b => (decode3 b 0x34 0x12).length) =
    [2, 1, 1, 1, 1, 1, 2, 1, 2, 1, 3, 1, 1, 1, 2, 1] := by decide

theorem test_decode_cb_row_0 : (row 0x00).map (decode3 0xCB · 0) =
    [.rlcB, .rlcC, .rlcD, .rlcE, .rlcH, .rlcL, .rlcAtHl, .rlcA, .rrcB, .rrcC, .rrcD, .rrcE, .rrcH, .rrcL, .rrcAtHl,
     .rrcA] := by decide

theorem test_decode_cb_row_1 : (row 0x10).map (decode3 0xCB · 0) =
    [.rlB, .rlC, .rlD, .rlE, .rlH, .rlL, .rlAtHl, .rlA, .rrB, .rrC, .rrD, .rrE, .rrH, .rrL, .rrAtHl, .rrA] := by decide

theorem test_decode_cb_row_2 : (row 0x20).map (decode3 0xCB · 0) =
    [.slaB, .slaC, .slaD, .slaE, .slaH, .slaL, .slaAtHl, .slaA, .sraB, .sraC, .sraD, .sraE, .sraH, .sraL, .sraAtHl,
     .sraA] := by decide

theorem test_decode_cb_row_3 : (row 0x30).map (decode3 0xCB · 0) =
    [.swapB, .swapC, .swapD, .swapE, .swapH, .swapL, .swapAtHl, .swapA, .srlB, .srlC, .srlD, .srlE, .srlH, .srlL,
     .srlAtHl, .srlA] := by decide

theorem test_decode_cb_row_4 : (row 0x40).map (decode3 0xCB · 0) =
    [.bit0B, .bit0C, .bit0D, .bit0E, .bit0H, .bit0L, .bit0AtHl, .bit0A, .bit1B, .bit1C, .bit1D, .bit1E, .bit1H,
     .bit1L, .bit1AtHl, .bit1A] := by decide

theorem test_decode_cb_row_5 : (row 0x50).map (decode3 0xCB · 0) =
    [.bit2B, .bit2C, .bit2D, .bit2E, .bit2H, .bit2L, .bit2AtHl, .bit2A, .bit3B, .bit3C, .bit3D, .bit3E, .bit3H,
     .bit3L, .bit3AtHl, .bit3A] := by decide

theorem test_decode_cb_row_6 : (row 0x60).map (decode3 0xCB · 0) =
    [.bit4B, .bit4C, .bit4D, .bit4E, .bit4H, .bit4L, .bit4AtHl, .bit4A, .bit5B, .bit5C, .bit5D, .bit5E, .bit5H,
     .bit5L, .bit5AtHl, .bit5A] := by decide

theorem test_decode_cb_row_7 : (row 0x70).map (decode3 0xCB · 0) =
    [.bit6B, .bit6C, .bit6D, .bit6E, .bit6H, .bit6L, .bit6AtHl, .bit6A, .bit7B, .bit7C, .bit7D, .bit7E, .bit7H,
     .bit7L, .bit7AtHl, .bit7A] := by decide

theorem test_decode_cb_row_8 : (row 0x80).map (decode3 0xCB · 0) =
    [.res0B, .res0C, .res0D, .res0E, .res0H, .res0L, .res0AtHl, .res0A, .res1B, .res1C, .res1D, .res1E, .res1H,
     .res1L, .res1AtHl, .res1A] := by decide

theorem test_decode_cb_row_9 : (row 0x90).map (decode3 0xCB · 0) =
    [.res2B, .res2C, .res2D, .res2E, .res2H, .res2L, .res2AtHl, .res2A, .res3B, .res3C, .res3D, .res3E, .res3H,
     .res3L, .res3AtHl, .res3A] := by decide

theorem test_decode_cb_row_A : (row 0xA0).map (decode3 0xCB · 0) =
    [.res4B, .res4C, .res4D, .res4E, .res4H, .res4L, .res4AtHl, .res4A, .res5B, .res5C, .res5D, .res5E, .res5H,
     .res5L, .res5AtHl, .res5A] := by decide

theorem test_decode_cb_row_B : (row 0xB0).map (decode3 0xCB · 0) =
    [.res6B, .res6C, .res6D, .res6E, .res6H, .res6L, .res6AtHl, .res6A, .res7B, .res7C, .res7D, .res7E, .res7H,
     .res7L, .res7AtHl, .res7A] := by decide

theorem test_decode_cb_row_C : (row 0xC0).map (decode3 0xCB · 0) =
    [.set0B, .set0C, .set0D, .set0E, .set0H, .set0L, .set0AtHl, .set0A, .set1B, .set1C, .set1D, .set1E, .set1H,
     .set1L, .set1AtHl, .set1A] := by decide

theorem test_decode_cb_row_D : (row 0xD0).map (decode3 0xCB · 0) =
    [.set2B, .set2C, .set2D, .set2E, .set2H, .set2L, .set2AtHl, .set2A, .set3B, .set3C, .set3D, .set3E, .set3H,
     .set3L, .set3AtHl, .set3A] := by decide

theorem test_decode_cb_row_E : (row 0xE0).map (decode3 0xCB · 0) =
    [.set4B, .set4C, .set4D, .set4E, .set4H, .set4L, .set4AtHl, .set4A, .set5B, .set5C, .set5D, .set5E, .set5H,
     .set5L, .set5AtHl, .set5A] := by decide

theorem test_decode_cb_row_F : (row 0xF0).map (decode3 0xCB · 0) =
    [.set6B, .set6C, .set6D, .set6E, .set6H, .set6L, .set6AtHl, .set6A, .set7B, .set7C, .set7D, .set7E, .set7H,
     .set7L, .set7AtHl, .set7A] := by decide

/-! ### Vectors of spec/95_test_vectors.md 2.1: 8-bit loads -/

theorem test_VL1_ld_b_c :
    bfc .ldBC ((State.reset.setReg .b 0x12).setReg .c 0x34) = some (0x34, 0xB0, 1) := by decide

theorem test_VL2_ld_a_d8 : afc (.ldAD8 0xD3) State.reset = some (0xD3, 0xB0, 2) := by decide

theorem test_VL3_ld_b_at_hl : bfc .ldBAtHl (withHl 0x99 0x00) = some (0x99, 0x00, 2) := by decide

theorem test_VL4_ld_at_hl_d8 : mfc (.ldAtHlD8 0x7F) (withHl 0x00 0x00) = some (0x7F, 0x00, 3) := by decide

theorem test_VL5_ld_at_hli_a :
    (next? (exec .ldAtHliA ((withPair .hl 0xFFFF 0x00).setReg .a 0x1F))).map (fun t => (t.intr.ie, t.pair .hl, t.opCycles)) =
      some (0x1F, 0x0000, 2) := by decide

theorem test_VL6_ld_a_at_hld :
    (next? (exec .ldAAtHld (pokeByte (withPair .hl 0x0000 0x00) 0x0000 0x31))).map (fun t => (t.cpu.a, t.pair .hl)) =
      some (0x31, 0xFFFF) := by decide

theorem test_VL7_ld_a_at_c :
    afc .ldAAtC { State.reset.setReg .c 0x44 with ppu := { State.reset.ppu with ly := 0x90 } } = some (0x90, 0xB0, 2) := by decide

set_option maxRecDepth 100000 in
theorem test_VL8_ldh_starts_dma :
    (next? (step (placeInstr (State.reset.setReg .a 0xC0) (0xE0, 0x46, 0x00)))).map
      (fun t => (t.dma.active, t.dma.source, t.dma.index, t.masterCycles)) = some (true, 0xC0, 3, 3) := by decide

theorem test_VL9_ld_a_at_a16 : afc (.ldAAtA16 0xC123) (rawWrite State.reset 0xC123 0x5A) = some (0x5A, 0xB0, 4) := by decide

theorem test_VL11_read_during_dma :
    afc .ldAAtHl { withHl 0x12 0x00 with dma := Dma.start 0xC0 } = some (0xFF, 0x00, 2) := by decide

/-! ### 2.2: 16-bit loads and the stack -/

theorem test_VW1_ld_sp_d16 : pfc .sp (.ldSpD16 0xFFFE) (withPair .sp 0x1234 0x00) = some (0xFFFE, 0x00, 3) := by decide

theorem test_VW2_ld_a16_sp :
    (next? (exec (.ldAtA16Sp 0xC000) (withPair .sp 0x1234 0x00))).map
      (fun t => (rawRead t 0xC000, rawRead t 0xC001, t.opCycles)) = some (0x34, 0x12, 5) := by decide

theorem test_VW3_push_bc :
    (next? (exec .pushBc (withPair .bc 0x1234 0x00))).map
      (fun t => (rawRead t 0xFFFD, rawRead t 0xFFFC, t.cpu.sp, t.opCycles)) = some (0x12, 0x34, 0xFFFC, 4) := by decide

theorem test_VW4_pop_af :
    (next? (exec .popAf (rawWrite (rawWrite (withPair .sp 0xFFFC 0x00) 0xFFFC 0xFF) 0xFFFD 0x12))).map
      (fun t => (t.cpu.a, t.cpu.f.toByte, t.cpu.sp, t.opCycles)) = some (0x12, 0xF0, 0xFFFE, 3) := by decide

theorem test_VW5_push_wraps :
    (next? (exec .pushDe ((withPair .sp 0x0001 0x00).setPair .de 0xABCD))).map (fun t => (t.intr.ie, t.cpu.sp)) =
      some (0xCD, 0xFFFF) := by decide

theorem test_VW6_VW7_VW8_ld_hl_sp_e8 :
    [(0xFFF8, 0x02), (0x00FF, 0x01), (0x0000, 0xFF)].map (fun x => pfc .hl (.ldHlSpE8 x.2) (withPair .sp x.1 0xF0)) =
      [some (0xFFFA, 0x00, 3), some (0x0100, 0x30, 3), some (0xFFFF, 0x00, 3)] := by decide

theorem test_VW9_ld_sp_hl : pfc .sp .ldSpHl (withPair .hl 0xDFF0 0x00) = some (0xDFF0, 0x00, 2) := by decide

/-! ### 2.3: 8-bit ALU -/

theorem test_VA1_to_VA5_add :
    [(0x3A, 0xC6), (0x0F, 0x01), (0xFF, 0x01), (0x80, 0x80), (0x00, 0x00)].map (fun x => afc .addAB (withAB x.1 x.2 0x00)) =
      [some (0x00, 0xB0, 1), some (0x10, 0x20, 1), some (0x00, 0xB0, 1), some (0x00, 0x90, 1), some (0x00, 0x80, 1)] := by decide

theorem test_VA6_to_VA9_adc :
    [(0xE1, 0x0F, 0x10), (0xFF, 0x00, 0x10), (0x0E, 0x01, 0x10), (0x7F, 0x80, 0x00)].map
      (fun x => afc .adcAB (withAB x.1 x.2.1 x.2.2)) =
      [some (0xF1, 0x20, 1), some (0x00, 0xB0, 1), some (0x10, 0x20, 1), some (0xFF, 0x00, 1)] := by decide

theorem test_VA10_to_VA14_sub :
    [(0x3E, 0x3E), (0x3E, 0x0F), (0x3E, 0x40), (0x00, 0x01), (0x10, 0x01)].map (fun x => afc .subB (withAB x.1 x.2 0x00)) =
      [some (0x00, 0xC0, 1), some (0x2F, 0x60, 1), some (0xFE, 0x50, 1), some (0xFF, 0x70, 1), some (0x0F, 0x60, 1)] := by decide

theorem test_VA15_to_VA19_sbc :
    [(0x3B, 0x2A), (0x3B, 0x4F), (0x00, 0xFF), (0x10, 0x0F), (0x01, 0x00)].map (fun x => afc .sbcAB (withAB x.1 x.2 0x10)) =
      [some (0x10, 0x40, 1), some (0xEB, 0x70, 1), some (0x00, 0xF0, 1), some (0x00, 0xE0, 1), some (0x00, 0xC0, 1)] := by decide

theorem test_VA20_to_VA25_logic :
    [(Instr.andB, 0x5A, 0x3F), (.andB, 0x5A, 0x00), (.xorB, 0xFF, 0xFF), (.xorB, 0xFF, 0x0F), (.orB, 0x5A, 0x0F),
     (.orB, 0x00, 0x00)].map (fun x => afc x.1 (withAB x.2.1 x.2.2 0xF0)) =
      [some (0x1A, 0x20, 1), some (0x00, 0xA0, 1), some (0x00, 0x80, 1), some (0xF0, 0x00, 1), some (0x5F, 0x00, 1),
       some (0x00, 0x80, 1)] := by decide

theorem test_VA26_to_VA29_cp :
    [(0x3C, 0x2F), (0x3C, 0x3C), (0x3C, 0x40), (0x00, 0x01)].map (fun x => afc .cpB (withAB x.1 x.2 0x00)) =
      [some (0x3C, 0x60, 1), some (0x3C, 0xC0, 1), some (0x3C, 0x50, 1), some (0x00, 0x70, 1)] := by decide

theorem test_VA30_VA31_inc_a :
    [afc .incA (withAB 0xFF 0x00 0x00), afc .incA (withAB 0x0F 0x00 0x10)] = [some (0x00, 0xA0, 1), some (0x10, 0x30, 1)] := by decide

theorem test_VA32_to_VA34_dec_b :
    [bfc .decB (withAB 0x00 0x01 0x10), bfc .decB (withAB 0x00 0x00 0x00), bfc .decB (withAB 0x00 0x10 0x00)] =
      [some (0x00, 0xD0, 1), some (0xFF, 0x60, 1), some (0x0F, 0x60, 1)] := by decide

theorem test_VA35_VA36_inc_dec_at_hl :
    [mfc .incAtHl (withHl 0x7F 0x00), mfc .decAtHl (withHl 0x00 0x10)] = [some (0x80, 0x20, 3), some (0xFF, 0x70, 3)] := by decide

/-! ### 2.4: 16-bit ALU -/

theorem test_VX1_to_VX4_add_hl :
    [pfc .hl .addHlBc ((withPair .hl 0x8A23 0x80).setPair .bc 0x0605), pfc .hl .addHlHl (withPair .hl 0x8A23 0x00),
     pfc .hl .addHlDe ((withPair .hl 0x8000 0x00).setPair .de 0x8000), pfc .hl .addHlSp ((withPair .hl 0x0FFF 0x00).setSp 0x0001)] =
      [some (0x9028, 0xA0, 2), some (0x1446, 0x30, 2), some (0x0000, 0x10, 2), some (0x1000, 0x20, 2)] := by decide

theorem test_VX5_VX6_inc_dec_pair :
    [pfc .de .incDe (withPair .de 0xFFFF 0x00), pfc .bc .decBc (withPair .bc 0x0000 0xF0)] =
      [some (0x0000, 0x00, 2), some (0xFFFF, 0xF0, 2)] := by decide

theorem test_VX7_to_VX9_add_sp_e8 :
    [(0xFFFF, 0x01), (0xFFF8, 0xFE), (0xFFF8, 0x02)].map (fun x => pfc .sp (.addSpE8 x.2) (withPair .sp x.1 0x00)) =
      [some (0x0000, 0x30, 4), some (0xFFF6, 0x30, 4), some (0xFFFA, 0x00, 4)] := by decide

/-! ### 2.5: rotates, shifts and bits -/

theorem test_VR1_to_VR7_accumulator_rotates :
    [(Instr.rlca, 0x80, 0x00), (.rlca, 0x00, 0x00), (.rrca, 0x01, 0x00), (.rla, 0x80, 0x00), (.rla, 0x95, 0x10),
     (.rra, 0x01, 0x00), (.rra, 0x00, 0x10)].map (fun x => afc x.1 (withAB x.2.1 0x00 x.2.2)) =
      [some (0x01, 0x10, 1), some (0x00, 0x00, 1), some (0x80, 0x10, 1), some (0x00, 0x10, 1), some (0x2B, 0x10, 1),
       some (0x00, 0x10, 1), some (0x80, 0x00, 1)] := by decide

theorem test_VR8_to_VR14_rotates :
    [(Instr.rlcB, 0x85, 0x00), (.rlcB, 0x00, 0x10), (.rrcB, 0x01, 0x00), (.rlB, 0x80, 0x00), (.rlB, 0x11, 0x10),
     (.rrB, 0x01, 0x00), (.rrB, 0x8A, 0x10)].map (fun x => bfc x.1 (withAB 0x00 x.2.1 x.2.2)) =
      [some (0x0B, 0x10, 2), some (0x00, 0x80, 2), some (0x80, 0x10, 2), some (0x00, 0x90, 2), some (0x23, 0x00, 2),
       some (0x00, 0x90, 2), some (0xC5, 0x00, 2)] := by decide

theorem test_VR15_to_VR22_shifts :
    [(Instr.slaB, 0x80, 0x00), (.slaB, 0xFF, 0x00), (.sraB, 0x8A, 0x00), (.sraB, 0x01, 0x00), (.swapB, 0x00, 0x10),
     (.swapB, 0xF0, 0x10), (.srlB, 0x01, 0x00), (.srlB, 0xFF, 0x10)].map (fun x => bfc x.1 (withAB 0x00 x.2.1 x.2.2)) =
      [some (0x00, 0x90, 2), some (0xFE, 0x10, 2), some (0xC5, 0x00, 2), some (0x00, 0x90, 2), some (0x00, 0x80, 2),
       some (0x0F, 0x00, 2), some (0x00, 0x90, 2), some (0x7F, 0x10, 2)] := by decide

theorem test_VR23_to_VR25_bits :
    [afc .bit7H ((withAB 0x11 0x00 0x10).setReg .h 0x80), bfc .bit0B (withAB 0x00 0xFE 0x00), afc .res7A (withAB 0x80 0x00 0xF0)] =
      [some (0x11, 0x30, 2), some (0xFE, 0xA0, 2), some (0x00, 0xF0, 2)] := by decide

theorem test_VR26_VR27_bits_at_hl :
    [mfc .set3AtHl (withHl 0x00 0x50), mfc .bit2AtHl (withHl 0x04 0x00)] = [some (0x08, 0x50, 4), some (0x04, 0x20, 3)] := by decide

/-! ### 2.6: control flow (PC is given past the instruction) -/

theorem test_VC1_to_VC4_jr :
    [flow (.jrE8 0x05) (control 0x0152 0xFFFE 0x00), flow (.jrE8 0xFE) (control 0x0202 0xFFFE 0x00),
     flow (.jrNzE8 0xFD) (control 0x0202 0xFFFE 0x00), flow (.jrNzE8 0xFD) (control 0x0202 0xFFFE 0x80)] =
      [some (0x0157, 0xFFFE, 3), some (0x0200, 0xFFFE, 3), some (0x01FF, 0xFFFE, 3), some (0x0202, 0xFFFE, 2)] := by decide

theorem test_VC5_to_VC7_jp :
    [flow (.jpCA16 0x1234) (control 0x0303 0xFFFE 0x10), flow (.jpCA16 0x1234) (control 0x0303 0xFFFE 0x00),
     flow .jpHl ((control 0x0303 0xFFFE 0x00).setPair .hl 0x4000)] =
      [some (0x1234, 0xFFFE, 4), some (0x0303, 0xFFFE, 3), some (0x4000, 0xFFFE, 1)] := by decide

theorem test_VC8_call :
    (next? (exec (.callA16 0x1234) (control 0x0403 0xFFFE 0x00))).map
      (fun t => (rawRead t 0xFFFD, rawRead t 0xFFFC, t.cpu.sp, t.cpu.pc, t.opCycles)) = some (0x04, 0x03, 0xFFFC, 0x1234, 6) := by decide

theorem test_VC9_call_not_taken : flow (.callNzA16 0x1234) (control 0x0403 0xFFFE 0x80) = some (0x0403, 0xFFFE, 3) := by decide

theorem test_VC10_to_VC12_ret :
    [flow .ret (control 0x0201 0xFFFC 0x00), flow .retZ (control 0x0201 0xFFFC 0x00), flow .retZ (control 0x0201 0xFFFC 0x80)] =
      [some (0x0403, 0xFFFE, 4), some (0x0201, 0xFFFC, 2), some (0x0403, 0xFFFE, 5)] := by decide

theorem test_VC13_reti :
    (next? (exec .reti (control 0x0201 0xFFFC 0x00))).map (fun t => (t.cpu.pc, t.cpu.ime, t.opCycles)) =
      some (0x0403, true, 4) := by decide

theorem test_VC14_rst :
    (next? (exec .rst38 (control 0x0201 0xD000 0x00))).map
      (fun t => (rawRead t 0xCFFF, rawRead t 0xCFFE, t.cpu.sp, t.cpu.pc)) = some (0x02, 0x01, 0xCFFE, 0x0038) := by decide

set_option maxRecDepth 100000 in
theorem test_VC15_pc_wraps :
    (next? (step { State.reset with cpu := { State.reset.cpu with pc := 0xFFFF } })).map (fun t => (t.cpu.pc, t.masterCycles)) =
      some (0x0000, 1) := by decide

/-! ### 2.7: miscellaneous -/

theorem test_VM1_to_VM11_daa :
    [(0x7D, 0x00), (0x9A, 0x00), (0x0A, 0x00), (0x10, 0x20), (0x00, 0x20), (0x00, 0x10), (0x45, 0x00), (0xFF, 0x70),
     (0x0F, 0x40), (0x00, 0xC0), (0xAA, 0x00), (0x99, 0x10)].map (fun x => afc .daa (withAB x.1 0x00 x.2)) =
      [some (0x83, 0x00, 1), some (0x00, 0x90, 1), some (0x10, 0x00, 1), some (0x16, 0x00, 1), some (0x06, 0x00, 1),
       some (0x60, 0x10, 1), some (0x45, 0x00, 1), some (0x99, 0x50, 1), some (0x0F, 0x40, 1), some (0x00, 0xC0, 1),
       some (0x10, 0x10, 1), some (0xF9, 0x10, 1)] := by decide

theorem test_VM12_to_VM15_cpl_scf_ccf :
    [afc .cpl (withAB 0x35 0x00 0x00), afc .scf (withAB 0x01 0x00 0xE0), afc .ccf (withAB 0x01 0x00 0x70),
     afc .ccf (withAB 0x01 0x00 0x80)] =
      [some (0xCA, 0x60, 1), some (0x01, 0x90, 1), some (0x01, 0x00, 1), some (0x01, 0x90, 1)] := by decide

theorem test_VM16_di :
    (next? (exec .di { State.reset with cpu := { State.reset.cpu with ime := true, imePending := true } })).map
      (fun t => (t.cpu.ime, t.cpu.imePending)) = some (false, false) := by decide

theorem test_VM17_VM18_stop :
    [StopLength.two, .one].map (fun n =>
      (next? (exec (.stop 0x00) { control 0x0302 0xFFFE 0x00 with params := { Params.default with stopLength := n } })).map
        fun t => (t.cpu.halt, t.cpu.pc)) =
      [some (.stopped, 0x0302), some (.stopped, 0x0301)] := by decide

set_option maxRecDepth 100000 in
theorem test_VM19_undefined :
    (next? (step (placeInstr (rawWrite (State.reset.setPc 0xC200) 0xC200 0xDD) (0xDD, 0x00, 0x00)))).map
      (fun t => (t.cpu.fatal, t.cpu.pc, t.masterCycles, t.timer.counter)) =
      some (some (0xDD, 0xC200), 0xC200, 0, 0xAB00) := by decide

theorem test_VM19_then_no_step :
    step { State.reset with cpu := { State.reset.cpu with fatal := some (0xDD, 0xC200) } } = .fault (.fatal 0xDD 0xC200) := rfl

/-! ### 2.8: interrupts -/

/-- The reset state with IME, IE, IF and the run state given, PC = 0x0200. -/
def intr (ime : Bool) (ie : Byte) (iflag : BitVec 5) (halt : RunState) : State :=
  { State.reset with
    cpu := { State.reset.cpu with pc := 0x0200, ime := ime, halt := halt }
    intr := { ie := ie, iflag := iflag } }

set_option maxRecDepth 100000 in
theorem test_VI1_VI2_dispatch :
    [intr true 0x1F 0x06 .running, intr true 0x10 0x1F .running].map (fun s =>
      let e := evaluateInterrupts s
      (e.1.cpu.pc, e.1.intr.iflag, e.1.cpu.ime, e.1.cpu.sp, popValue e.1, e.2)) =
      [(0x0048, 0x04, false, 0xFFFC, 0x0200, 5), (0x0060, 0x0F, false, 0xFFFC, 0x0200, 5)] := by decide

theorem test_VI3_VI4_VI8_no_dispatch :
    [intr true 0x00 0x1F .running, intr false 0x04 0x04 .halted, intr true 0xE0 0x1F .running].map (fun s =>
      let e := evaluateInterrupts s
      (e.1.cpu.pc, e.1.intr.iflag, e.1.cpu.halt, e.2)) =
      [(0x0200, 0x1F, .running, 0), (0x0200, 0x04, .running, 0), (0x0200, 0x1F, .running, 0)] := by decide

/-- `EI` in WRAM with the VBlank interrupt requested, and the byte after it. -/
def eiThen (b : Byte) : State := placeInstr { intr false 0x01 0x01 .running with cpu := { State.reset.cpu with pc := 0xC100 } } (0xFB, b, 0x00)

set_option maxRecDepth 100000 in
theorem test_VI5_ei_nop :
    (next? (step (eiThen 0x00))).bind (fun t => (next? (step t)).map fun u =>
      (t.cpu.pc, t.cpu.ime, u.cpu.pc, u.cpu.ime, rawRead u 0xFFFD, rawRead u 0xFFFC)) =
      some (0xC101, false, 0x0040, false, 0xC1, 0x02) := by decide

set_option maxRecDepth 100000 in
theorem test_VI6_ei_di :
    (next? (step (eiThen 0xF3))).bind (fun t => (next? (step t)).map fun u => (t.cpu.imePending, u.cpu.pc, u.cpu.ime)) =
      some (true, 0xC102, false) := by decide

/-! ### 2.9: timer -/

/-- The reset state with the timer given. -/
def timer (counter : Word) (tima tma : Byte) (tac : BitVec 3) (rel : Nat) : State :=
  { State.reset with timer := { counter := counter, tima := tima, tma := tma, tac := tac, reloadCountdown := rel } }

theorem test_VT1_falling_edge : ((timerT (timer 0x000F 0x10 0x00 5 0)).timer.tima, (timerT (timer 0x000F 0x10 0x00 5 0)).timer.counter) =
    (0x11, 0x0010) := by decide

theorem test_VT2_VT3_edges :
    [(timer 0x03FF 0x10 0 4 0), (timer 0x01FF 0x10 0 4 0), (timer 0x003F 0x10 0 6 0), (timer 0x00FF 0x10 0 7 0),
     (timer 0x00FF 0x10 0 3 0)].map (fun s => (timerT s).timer.tima) = [0x11, 0x10, 0x11, 0x11, 0x10] := by decide

theorem test_VT4_VT5_overflow_and_reload :
    (timerT (timer 0x000F 0xFF 0x80 5 0)).timer = { counter := 0x0010, tima := 0x00, tma := 0x80, tac := 5, reloadCountdown := 4 } ∧
      ((timerT (timerT (timerT (timerT (timer 0x0010 0x00 0x80 5 4))))).timer.tima,
        (timerT (timerT (timerT (timerT (timer 0x0010 0x00 0x80 5 4))))).intr.iflag) = (0x80, 0b00101) := by decide

theorem test_VT6_write_cancels_reload :
    (busWrite (timer 0x0010 0x00 0x80 5 4) 0xFF05 0x33).timer = { counter := 0x0010, tima := 0x33, tma := 0x80, tac := 5, reloadCountdown := 0 } := by
  decide

theorem test_VT8_VT9_div :
    [(busWrite (timer 0x0008 0x10 0 5 0) 0xFF04 0x77).timer.tima, (busWrite (timer 0x0008 0x10 0 1 0) 0xFF04 0x77).timer.tima,
     busRead (busWrite (timer 0x0008 0x10 0 1 0) 0xFF04 0x77) 0xFF04] = [0x11, 0x10, 0x00] := by decide

theorem test_VT11_tac_reads :
    [busRead (busWrite State.reset 0xFF07 0xFF) 0xFF07, busRead (busWrite State.reset 0xFF07 0x05) 0xFF07] = [0xFF, 0xFD] := by decide

theorem test_VT12_tac_glitch :
    [false, true].map (fun g =>
      (busWrite { timer 0x0008 0x10 0 5 0 with params := { Params.default with tacWriteGlitch := g } } 0xFF07 0x01).timer.tima) =
      [0x10, 0x11] := by decide

/-! ### 2.10: DMA -/

/-- A DMA of 0xC000 at an index; [0xC000] = 0x12, [0xC001] = 0x34, [0xFF80] = 0x3C. -/
def dma (index : Nat) : State :=
  { rawWrite (rawWrite (rawWrite State.reset 0xC000 0x12) 0xC001 0x34) 0xFF80 0x3C with
    dma := { reg := 0xC0, active := true, source := 0xC0, index := index } }

theorem test_VD1_dma_bytes : (dmaM (dmaM (dma 0))).oam = [(0, 0x12), (1, 0x34)] ∧ (dmaM (dmaM (dma 0))).dma.index = 2 := by decide

theorem test_VD2_dma_ends : (dmaM (dma 159)).dma = { reg := 0xC0, active := false, source := 0xC0, index := 160 } := by decide

theorem test_VD3_VD4_reads_during_dma :
    [0xC000, 0xFF80, 0xFE00, 0xFF44, 0xFFFF].map (busRead (dma 5)) = [0xFF, 0x3C, 0xFF, 0xFF, 0xFF] := by decide

theorem test_VD5_fetch_during_dma : fetched { dma 5 with cpu := { State.reset.cpu with pc := 0xC100 } } = .rst38 := by decide

theorem test_VD6_dma_restart : (busWrite (dma 50) 0xFF46 0xD0).dma = { reg := 0xD0, active := true, source := 0xD0, index := 0 } := by decide

/-! ### 2.11: PPU -/

/-- The reset state with the PPU somewhere. -/
def ppuAt (ly : Byte) (dot : Nat) (m : Mode) (len : Nat) : State :=
  { State.reset with ppu := { State.reset.ppu with ly := ly, dot := dot, mode := m, mode3Len := len } }

set_option maxRecDepth 100000 in
theorem test_VP1_VP2_VP3_line :
    [ppuAt 0 79 .oamScan 172, ppuAt 0 251 .drawing 172, ppuAt 0 455 .hblank 172].map (fun s =>
      ((ppuDot s).ppu.ly, (ppuDot s).ppu.dot, (ppuDot s).ppu.mode, (ppuDot s).ppu.mode3Len)) =
      [(0, 80, .drawing, 172), (0, 252, .hblank, 172), (1, 0, .oamScan, 172)] := by decide

set_option maxRecDepth 100000 in
theorem test_VP4_VP5_frame :
    [ppuAt 143 455 .hblank 172, ppuAt 153 455 .vblank 172].map (fun s =>
      ((ppuDot s).ppu.ly, (ppuDot s).ppu.mode, (ppuDot s).host.framesDone)) = [(144, .vblank, 0), (0, .oamScan, 1)] := by decide

set_option maxRecDepth 100000 in
theorem test_VP6_scx : (ppuDot { ppuAt 0 79 .oamScan 172 with ppu := { (ppuAt 0 79 .oamScan 172).ppu with scx := 3 } }).ppu.mode3Len = 175 := by
  decide

set_option maxRecDepth 100000 in
theorem test_VP7_lyc :
    let s := { ppuAt 4 455 .hblank 172 with ppu := { (ppuAt 4 455 .hblank 172).ppu with lyc := 5, statSel := 8 }, intr := ⟨0, 0⟩ }
    ((ppuDot s).intr.iflag, ioRead (ppuDot s) 0x41) = (0b00010, 0xC6) := by decide

theorem test_VP9_VP10_lcd :
    let off := busWrite (ppuAt 60 100 .drawing 172) 0xFF40 0x11
    let on := busWrite off 0xFF40 0x91
    (off.ppu.ly, off.ppu.dot, busRead off 0xFF41, on.ppu.ly, on.ppu.dot, on.ppu.mode) = (0, 0, 0x84, 0, 0, .oamScan) := by decide

set_option maxRecDepth 100000 in
theorem test_VP_pixels :
    let vram : Memory := [(0x10, 0xF0), (0x11, 0x0F), (0x1800, 0x01)]
    let p := { State.reset.ppu with bgp := 0xE4 }
    (p.pixel vram 0, p.pixel vram 4, p.pixel vram 8) = (1, 2, 0) := by decide

/-- R789's row by hand, exact (R11), where LCDC bit 2 was cleared after a scan for sprites 16 high (LY = 8 and 15, Y = 16,
Y flip): 7 - 8 = -1 is row 7 of the tile, 7 - 15 = -8 is row 0. -/
theorem test_flipped_row_below_zero :
    let vram : Memory := [(0x1E, 0xFF)]
    let sp : Sprite := ⟨0, 16, 8, 1, 0x40⟩
    ([8, 15].map fun ly => { State.reset.ppu with lcdc := 0x93, ly := ly }.spriteColour vram sp 0) = [1, 0] := by decide

/-! ### 2.12: joypad -/

/-- The joypad after a write to P1, with buttons pressed before. -/
def pad (p1 : Byte) (pressed : List Button) : State :=
  { State.reset with joypad := (pressed.foldl (fun j k => j.setPressed k true) State.reset.joypad).writeP1 p1 }

theorem test_VJ1_to_VJ4_p1 :
    [busRead (pad 0x20 [.right]) 0xFF00, busRead (pad 0x10 [.a, .start]) 0xFF00,
     busRead (pad 0x30 [.right, .left, .up, .down, .a, .b, .select, .start]) 0xFF00, busRead (pad 0x00 [.up, .b]) 0xFF00] =
      [0xEE, 0xD6, 0xFF, 0xC9] := by decide

theorem test_VJ5_VJ6_VJ8_events :
    [pad 0x10 [], pad 0x20 [], pad 0x10 [.a]].map (fun s =>
      let t := pollJoypad (hostEvent s ⟨.a, true⟩)
      (busRead t 0xFF00, t.intr.iflag)) = [(0xDE, 0b10001), (0xEF, 0b00001), (0xDE, 0b00001)] := by decide

/-! ### 2.13: cartridges -/

/-- A cartridge of n banks in which byte 0 of each of the first banks and a few others is its bank number's low byte. -/
def cart (m : Mbc) (banks ramSize : Nat) : Cart where
  rom := { size := banks * 0x4000, bytes := [(0x4000, 0x01), (0x8000, 0x02), (0xC000, 0x03), (0x14000, 0x05), (0x80000, 0x20),
    (0x84000, 0x21), (0x414000, 0x99)] }
  hasRam := decide (ramSize ≠ 0)
  battery := false
  romBanks := banks
  ramSize := ramSize
  mbc := m
  ram := []
  dirty := false

/-- Writes to a cartridge, then a ROM read. -/
def banked (c : Cart) (ws : List (Nat × Byte)) (a : Nat) : Byte := (ws.foldl (fun c w => c.writeRom w.1 w.2) c).readRom a

theorem test_VK1_to_VK6_mbc1 :
    let small := cart (.mbc1 Mbc1.reset) 4 0
    let large := cart (.mbc1 Mbc1.reset) 128 0
    [banked small [(0x2000, 0x02)] 0x4000, banked small [(0x2000, 0x00)] 0x4000, banked small [(0x2000, 0x20)] 0x4000,
     banked small [(0x2000, 0x04)] 0x4000, banked large [(0x4000, 0x01), (0x6000, 0x01)] 0x0000, banked large [(0x4000, 0x01)] 0x4000] =
      [0x02, 0x01, 0x01, 0x00, 0x20, 0x21] := by decide

theorem test_VK7_VK8_mbc1_ram :
    let c := cart (.mbc1 Mbc1.reset) 4 8192
    let on := (c.writeRom 0x0000 0x1A).writeRam 0xA000 0x55
    (on.readRam 0xA000, on.dirty, (c.writeRam 0xA000 0x55).readRam 0xA000, (c.writeRam 0xA000 0x55).dirty) = (0x55, true, 0xFF, false) := by
  decide

theorem test_VK9_to_VK11_mbc2 :
    let c := cart (.mbc2 Mbc2.reset) 16 512
    (banked c [(0x2100, 0x05)] 0x4000, ((c.writeRom 0x0000 0x0A).writeRam 0xA000 0x5A).readRam 0xA200,
      (c.writeRom 0x2100 0x0A).mbc) = (0x05, 0xFA, .mbc2 { ramEnable := false, romBank := 10 }) := by decide

theorem test_VK12_VK13_mbc5 :
    let c := cart (.mbc5 Mbc5.reset) 512 0
    (banked c [(0x2000, 0x00)] 0x4000, banked c [(0x3000, 0x01), (0x2000, 0x05)] 0x4000) = (0x00, 0x99) := by decide

theorem test_VK14_no_mbc : banked (cart .none 2 0) [(0x2000, 0x01)] 0x4000 = 0x01 := by decide

theorem test_VK15_echo : busRead (busWrite State.reset 0xE005 0x12) 0xC005 = 0x12 := by decide

theorem test_VK16_VK17_unused :
    [0xFEA0, 0xFF03, 0xFF4C].map (busRead State.reset) = [0xFF, 0xFF, 0xFF] ∧ busRead (busWrite State.reset 0xFF0F 0x00) 0xFF0F = 0xE0 := by
  decide

set_option maxRecDepth 100000 in
theorem test_VK18_VK19_refusals :
    construct (Setup.default { size := 32768, bytes := [(0x147, 0x0F)] }) = .refused .invalidRom ∧
      construct { Setup.default { size := 32768, bytes := [] } with bootrom := some { size := 255, bytes := [] } } =
        .refused .bootromSize := ⟨rfl, rfl⟩

/-! ### Witnesses: concrete states and operands that meet the hypotheses of each statement, at the ends of its ranges -/

theorem witness_DecodeOfEncode :
    (Instr.callA16 0xFFFF).wf = true ∧ decode (encode (.callA16 0xFFFF) ++ [0x00]) = .ok (.callA16 0xFFFF, [0x00]) := by decide

theorem witness_EveryByteStringDecodes :
    3 ≤ ([0xFF, 0xFF, 0xFF] : List Byte).length ∧ decode [0xFF, 0xFF, 0xFF] = .ok (.rst38, [0xFF, 0xFF]) := by decide

theorem witness_RotatesAndShifts :
    rotAccI .rlc = some .rlca ∧ rotAccI .rrc = some .rrca ∧ rotAccI .rl = some .rla ∧ rotAccI .rr = some .rra := by decide

theorem witness_DecimalAdjustIsDecimal :
    validBcd (withAB 0x99 0x00 0x00).cpu.a ∧ validBcd (withAB 0x99 0x00 0x00).cpu.b := by
  unfold validBcd
  decide

theorem witness_UndefinedOpcodesAreFatal :
    (0xD3, .undefinedD3) ∈ undefinedOps ∧ (0xFD, .undefinedFD) ∈ undefinedOps ∧ (∀ x ∈ undefinedOps, Instr.nop ≠ x.2) ∧
      exec .nop State.reset = .next (State.reset.spend 1) := ⟨by decide, by decide, by decide, rfl⟩

theorem witness_EveryInstructionCompletes :
    ∀ i ∈ [Instr.nop, .stop 0xFF, .prefixCb 0x7E, .ei, .reti, .set7A], ∀ x ∈ undefinedOps, i ≠ x.2 := by decide

theorem witness_WritersOfFlagsAndControl :
    exec .nop State.reset = .next (State.reset.spend 1) ∧ writesFlags .nop = false ∧ Instr.nop ≠ .di ∧ Instr.nop ≠ .reti ∧
      Instr.nop ≠ .ei ∧ Instr.nop ≠ .halt ∧ (∀ x, Instr.nop ≠ .stop x) :=
  ⟨rfl, by decide, by decide, by decide, by decide, by decide, by simp⟩

theorem storedAt_ldAtHlA (s : State) : storedAt .ldAtHlA s = [s.pair .hl] := rfl

/-- A store to 0xC000 completes, and these addresses are outside its footprint; so is everything the ROM clause asks for. -/
theorem witness_MemoryFrame :
    (∃ t, exec .ldAtHlA (withHl 0x11 0x00) = .next t) ∧
      (∀ b ∈ ([0x8000, 0x9FFF, 0xC001, 0xDFFF, 0xE001, 0xFDFF, 0xFE00, 0xFE9F, 0xFF80, 0xFFFE, 0xFFFF] : List Word),
        plainAddress b ∧ ∀ a ∈ storedAt .ldAtHlA (withHl 0x11 0x00), cellOf a ≠ cellOf b) ∧
      NoneIn (storedAt .ldAtHlA (withHl 0x11 0x00)) 0x0000 0x7FFF ∧ NoneIn (storedAt .ldAtHlA (withHl 0x11 0x00)) 0xFF50 0xFF50 := by
  have e : (withHl 0x11 0x00).pair .hl = 0xC000 := by decide
  unfold plainAddress NoneIn
  simp only [storedAt_ldAtHlA, e, List.mem_cons, List.not_mem_nil, or_false, forall_eq_or_imp, forall_eq]
  exact ⟨exec_next _ _, by simp [cellOf], by decide, by decide⟩

/-- The other clauses: a cartridge RAM cell and a wave RAM cell that a store does not reach. -/
theorem witness_MemoryFrame_arrays :
    (cart (.mbc5 { Mbc5.reset with ramEnable := true }) 2 8192).ramIndex 0xA000 ≠ some 1 ∧
      ∀ a ∈ storedAt .ldAtHlA (withPair .hl 0xFF3F 0x00), a.toNat ≠ 0xFF30 + 14 := by
  have e : (withPair .hl 0xFF3F 0x00).pair .hl = 0xFF3F := by decide
  simp only [storedAt_ldAtHlA, e, List.mem_cons, List.not_mem_nil, or_false, forall_eq]
  exact ⟨by decide, by decide⟩

/-- A store to 0xC000 reaches no device; a store to 0xFF46 reaches the DMA and not the PPU. -/
theorem witness_DeviceFrame :
    (∃ t, exec .ldAtHlA (withHl 0x11 0x00) = .next t) ∧ NoneIn (storedAt .ldAtHlA (withHl 0x11 0x00)) 0xFF00 0xFFFF ∧
      NoneIn (storedAt .ldAtHlA (withHl 0x11 0x00)) 0x0000 0xBFFF ∧ NoneIn (storedAt .ldAtHlA (withPair .hl 0xFF46 0x00)) 0xFF40 0xFF45 ∧
      NoneIn (storedAt .ldAtHlA (withPair .hl 0xFF46 0x00)) 0xFF47 0xFF4B := by
  have e : (withHl 0x11 0x00).pair .hl = 0xC000 := by decide
  have e' : (withPair .hl 0xFF46 0x00).pair .hl = 0xFF46 := by decide
  unfold NoneIn
  simp only [storedAt_ldAtHlA, e, e', List.mem_cons, List.not_mem_nil, or_false, forall_eq]
  exact ⟨exec_next _ _, by decide, by decide, by decide, by decide⟩

theorem witness_StepRunsTheDecodedInstruction :
    State.reset.cpu.fatal = none ∧ State.reset.cpu.halt = .running ∧
      decode [busRead (pollJoypad State.reset) 0x0100, busRead (pollJoypad State.reset) 0x0101, busRead (pollJoypad State.reset) 0x0102] =
        .ok (.nop, [0x00, 0x00]) ∧
      (intr false 0x00 0x00 .halted).cpu.fatal = none ∧ (intr false 0x00 0x00 .halted).cpu.halt ≠ .running ∧
      (raiseFatal State.reset 0xDD).cpu.fatal ≠ none := by decide

theorem witness_OnlyTheFatalStateStops :
    (raiseFatal State.reset 0xDD).cpu.fatal = some (0xDD, 0x00FF) ∧ (eiThen 0x00).cpu.fatal = none ∧
      (let s := rawWrite (State.reset.setPc 0xC000) 0xC000 0xFD
       s.cpu.fatal = none ∧ s.cpu.halt = .running ∧ ∃ x ∈ undefinedOps, busRead (pollJoypad s) s.cpu.pc = x.1) := by decide

theorem witness_EnableInterruptDelay :
    let s := eiThen 0x00
    s.cpu.fatal = none ∧ s.cpu.halt = .running ∧ s.cpu.ime = false ∧ s.cpu.imePending = false ∧
      busRead (pollJoypad s) s.cpu.pc = 0xFB := by decide

theorem witness_InterruptEvaluation :
    let req := fun (s : State) (k : Nat) => s.intr.ie.getLsbD k && s.intr.iflag.getLsbD k
    (∀ k < 5, req (intr true 0xE0 0x1F .running) k = false) ∧ (∀ k < 5, req (intr false 0x1F 0x1F .halted) k = true) ∧
      (intr false 0x1F 0x1F .halted).cpu.ime = false ∧ req (intr true 0x1F 0x10 .halted) 4 = true ∧
      (∀ j < 4, req (intr true 0x1F 0x10 .halted) j = false) ∧ req (intr true 0x1F 0x1F .halted) 0 = true ∧
      (intr true 0x1F 0x10 .halted).cpu.ime = true := by decide

set_option maxRecDepth 100000 in
/-- A step of the reset state, one that ends in a fatal state, and one that dispatches an interrupt. -/
theorem witness_MasterCycleAccounting :
    (next? (step State.reset)).map (fun t => (t.cpu.fatal, t.masterCycles)) = some (none, 1) ∧
      (next? (step (rawWrite (State.reset.setPc 0xC000) 0xC000 0xFD))).map (fun t => (t.cpu.fatal, t.masterCycles)) =
        some (some (0xFD, 0xC000), 0) ∧
      (next? (step (intr true 0x01 0x01 .halted))).map (fun t => (t.cpu.pc, t.masterCycles)) = some (0x0040, 6) := by decide

set_option maxRecDepth 100000 in
/-- The hypotheses of the statements about a step from any state, and of the three invariants: the reset state. -/
theorem witness_step_and_invariants :
    (∃ t, step State.reset = .next t) ∧ State.reset.MemForm ∧ State.reset.ppu.Form ∧ State.reset.apu.Form ∧
      State.reset.DriverForm ∧ State.reset.boot.mapped = false :=
  ⟨⟨_, rfl⟩, by decide, by decide, by decide, by decide, by decide⟩

set_option maxRecDepth 100000 in
/-- A setup of each outcome: an unsupported type, size byte and short image; a boot ROM of 255 and one of 256 bytes. -/
theorem witness_ConstructionRefusals :
    [Setup.default { size := 32768, bytes := [(0x147, 0x04)] }, Setup.default { size := 32768, bytes := [(0x148, 0x09)] },
      Setup.default { size := 32768, bytes := [(0x149, 0x06)] }, Setup.default { size := 32767, bytes := [] },
      Setup.default { size := 32768, bytes := [(0x148, 0x01)] },
      { Setup.default { size := 32768, bytes := [] } with bootrom := some { size := 255, bytes := [] } },
      { Setup.default { size := 32768, bytes := [] } with bootrom := some { size := 256, bytes := [] } },
      Setup.default { size := 32768, bytes := [(0x147, 0x1E), (0x149, 0x05)] }].map (fun s => (next? (construct s)).isSome) =
      [false, false, false, false, false, false, true, true] := by decide

/-- Mode 3, and a DMA at index 5, at the ends of each locked range. -/
theorem witness_AccessLocks :
    let s := ppuAt 0 80 .drawing 172
    let d := dma 5
    d.dma.active = true ∧ s.ppu.lcdOn = true ∧ s.ppu.mode = .drawing ∧ State.reset.ppu.mode = .oamScan ∧
      [0x7FFF, 0x8000, 0xFF7F, 0xFFFF].map (busRead d) = [0xFF, 0xFF, 0xFF, 0xFF] ∧ busRead d 0xFFFE = 0x00 ∧
      [0x8000, 0x9FFF, 0xFE00, 0xFE9F].map (busRead s) = [0xFF, 0xFF, 0xFF, 0xFF] ∧
      (busWrite s 0x9FFF 0x12).vram = [] ∧ (busWrite s 0xFE9F 0x12).oam = [] ∧
      d.params.dmaCpuWrites = .performed ∧ (busWrite d 0xC000 0x55).wram = [(0, 0x55), (1, 0x34)] ∧
      (busWrite { d with params := { d.params with dmaCpuWrites := .droppedOutsideHram } } 0xC000 0x55).wram = [(0, 0x12), (1, 0x34)] := by
  decide

set_option maxRecDepth 100000 in
theorem witness_StorageReadsBack :
    State.reset.MemForm ∧
      ∀ a ∈ ([0x8000, 0x9FFF, 0xC000, 0xDFFF, 0xE000, 0xFDFF, 0xFF80, 0xFFFE, 0xFFFF] : List Word),
        readLocked State.reset a = false ∧ writeLocked State.reset a = false ∧ plainAddress a := by
  unfold plainAddress
  simp only [List.mem_cons, List.not_mem_nil, or_false, forall_eq_or_imp, forall_eq]
  exact ⟨by decide, by decide⟩

theorem witness_StorageReadsBack_oam :
    readLocked (ppuAt 0 455 .hblank 172) 0xFE9F = false ∧ writeLocked (ppuAt 0 455 .hblank 172) 0xFE9F = false ∧
      busRead (busWrite (ppuAt 0 455 .hblank 172) 0xFE9F 0x12) 0xFE9F = 0x12 := by decide

theorem witness_RegistersReadBack :
    State.reset.dma.active = false ∧ State.reset.cart.mbc = .none ∧
      (([0xFEA0, 0xFEFF, 0xFF03, 0xFF08, 0xFF0E, 0xFF15, 0xFF1F, 0xFF27, 0xFF2F, 0xFF4C, 0xFF4F, 0xFF51, 0xFF7F, 0xA000, 0xBFFF] :
        List Word).all fun a => decide (busRead State.reset a = 0xFF)) = true := by decide

theorem witness_ApuRegistersReadBack :
    State.reset.apu.power = true ∧ (State.reset.apu.write 0x26 0x00).power = false ∧ State.reset.apu.ch3.ram.wf = true ∧
      (State.reset.apu.write 0x30 0x5A).read 0x30 = 0x5A ∧ (State.reset.apu.write 0x3F 0xA5).read 0x3F = 0xA5 ∧
      ((State.reset.apu.write 0x26 0x7F).write 0x12 0x99).read 0x12 = 0xF3 := by decide

/-- MBC1 at the ends of its ranges: the registers each write leaves, the bank each read names. -/
theorem witness_Mbc1Banking :
    let c := cart (.mbc1 Mbc1.reset) 128 8192
    ([(0x0000, 0x0A), (0x1FFF, 0x0B), (0x2000, 0xE0), (0x3FFF, 0xFF), (0x4000, 0xFF), (0x5FFF, 0x04), (0x6000, 0x01), (0x7FFF, 0xFE)].map
        fun x => (c.writeRom x.1 x.2).mbc) =
      [.mbc1 ⟨true, 1, 0, false⟩, .mbc1 ⟨false, 1, 0, false⟩, .mbc1 ⟨false, 1, 0, false⟩, .mbc1 ⟨false, 31, 0, false⟩,
       .mbc1 ⟨false, 1, 3, false⟩, .mbc1 ⟨false, 1, 0, false⟩, .mbc1 ⟨false, 1, 0, true⟩, .mbc1 ⟨false, 1, 0, false⟩] ∧
      (c.readRom 0x4000, c.readRom 0x3FFF, (c.writeRom 0x0000 0x0A).readRam 0xBFFF, c.readRam 0xA000) = (0x01, 0x00, 0x00, 0xFF) := by
  decide

/-- MBC2 at the ends of its ranges; address bit 8 decides. -/
theorem witness_Mbc2Banking :
    let c := cart (.mbc2 Mbc2.reset) 16 512
    ([(0x0000, 0x0A), (0x00FF, 0xFA), (0x0100, 0x00), (0x3FFF, 0x0F), (0x3EFF, 0x0A), (0x4000, 0x0A), (0x7FFF, 0x0A)].map
        fun x => (c.writeRom x.1 x.2).mbc) =
      [.mbc2 ⟨true, 1⟩, .mbc2 ⟨true, 1⟩, .mbc2 ⟨false, 1⟩, .mbc2 ⟨false, 15⟩, .mbc2 ⟨true, 1⟩, .mbc2 ⟨false, 1⟩, .mbc2 ⟨false, 1⟩] ∧
      (c.readRam 0xA000, (c.writeRom 0x0000 0x0A).readRam 0xBFFF) = (0xFF, 0xF0) := by decide

/-- MBC5 at the ends of its ranges. -/
theorem witness_Mbc5Banking :
    let c := cart (.mbc5 Mbc5.reset) 512 8192
    ([(0x0000, 0x0A), (0x1FFF, 0x0B), (0x2000, 0x00), (0x2FFF, 0xFF), (0x3000, 0x03), (0x3FFF, 0x00), (0x4000, 0xFF), (0x5FFF, 0x10),
        (0x6000, 0x01), (0x7FFF, 0xFF)].map fun x => (c.writeRom x.1 x.2).mbc) =
      [.mbc5 ⟨true, 1, 0⟩, .mbc5 ⟨false, 1, 0⟩, .mbc5 ⟨false, 0, 0⟩, .mbc5 ⟨false, 255, 0⟩, .mbc5 ⟨false, 257, 0⟩, .mbc5 ⟨false, 1, 0⟩,
       .mbc5 ⟨false, 1, 15⟩, .mbc5 ⟨false, 1, 0⟩, .mbc5 ⟨false, 1, 0⟩, .mbc5 ⟨false, 1, 0⟩] ∧
      (c.readRam 0xA000, (c.writeRom 0x0000 0x0A).readRam 0xBFFF) = (0xFF, 0x00) := by decide

/-- A dirty cartridge under each policy, with a frame completed in the step and without. -/
theorem witness_SaveFlushing :
    ([(SaveFlush.onFrame, 1), (.onFrame, 0), (.everyStep, 0), (.onlyAtTeardown, 1)].map fun x =>
      let s := { State.reset with
        cart := { cart (.mbc5 Mbc5.reset) 2 8192 with dirty := true }
        host := { State.reset.host with framesDone := x.2 }
        params := { Params.default with saveFlush := x.1 } }
      ((saveFlush 0 s).cart.dirty, (saveFlush 0 s).host.saves)) = [(false, 1), (true, 0), (false, 1), (true, 0)] := by decide

/-- Under the free policy a dirty cartridge meets one of the two clauses, whichever the free value picks. -/
theorem witness_SaveFlushing_free :
    let s := { State.reset with
      cart := { cart (.mbc5 Mbc5.reset) 2 8192 with dirty := true }
      params := { Params.default with saveFlush := .free } }
    s.cart.dirty = true ∧ (saveFlush 0 s).cart.dirty = !Config.flushFree 0 0 0 := by
  refine ⟨rfl, ?_⟩
  show (if Config.flushFree 0 0 0 then _ else _ : State).cart.dirty = _
  cases Config.flushFree 0 0 0 <;> rfl

theorem witness_TimerCycle :
    fallingEdge (timer 0x000F 0x10 0 5 0).timer = true ∧ fallingEdge (timer 0x000F 0x10 0 1 0).timer = false ∧
      fallingEdge (timer 0x0010 0x10 0 5 4).timer = false ∧ (timer 0x0010 0x10 0 5 1).timer.reloadCountdown = 1 ∧
      (timerT (timer 0x0010 0x00 0x80 5 2)).timer.reloadCountdown = 1 ∧ (timerT (timer 0x0010 0x00 0x80 5 1)).timer.tima = 0x80 := by
  decide

theorem witness_TimaPeriodAndReload :
    (timer 0xFFFF 0xFE 0 5 0).timer.tac.getLsbD 2 = true ∧ (timer 0xFFFF 0xFE 0 5 0).timer.tima ≠ 0xFF ∧
      timaPeriod (timer 0xFFFF 0xFE 0 5 0).timer.tac = 16 ∧ fallingEdge (timer 0x000F 0xFF 0x80 5 0).timer = true := by decide

theorem witness_TimerWrites : State.reset.dma.active = false ∧ (timer 0x0008 0xFF 0 5 0).dma.active = false := by decide

theorem witness_DmaStartAndCycle :
    writeLocked State.reset 0xFF46 = false ∧ State.reset.dma.active = false ∧ (dma 159).dma.active = true := by decide

theorem witness_DmaCopiesThePage :
    (dma 0).oam.wf = true ∧ (dma 0).dma.active = true ∧ (dma 0).dma.index = 0 ∧ (dma 0).dma.source.toNat < 0xFE := by decide

theorem witness_FramePeriod :
    (ppuAt 153 455 .vblank 172).ppu.lcdOn = true ∧ (ppuAt 153 455 .vblank 172).ppu.ly.toNat ≤ 153 ∧
      (ppuAt 153 455 .vblank 172).ppu.dot < 456 := by decide

set_option maxRecDepth 100000 in
theorem witness_DotAndVblank :
    (ppuAt 143 454 .hblank 172).ppu.Form ∧ (ppuAt 143 455 .hblank 172).ppu.Form ∧ (ppuAt 153 455 .vblank 289).ppu.Form ∧
      (busWrite (ppuAt 60 100 .drawing 172) 0xFF40 0x11).ppu.Form ∧
      (busWrite (ppuAt 60 100 .drawing 172) 0xFF40 0x11).ppu.lcdOn = false :=
  ⟨by decide, by decide, by decide, by decide, by decide⟩

theorem witness_LcdOffAndOn :
    let off := busWrite (ppuAt 60 100 .drawing 172) 0xFF40 0x11
    writeLocked (ppuAt 60 100 .drawing 172) 0xFF40 = false ∧ (ppuAt 60 100 .drawing 172).ppu.lcdOn = true ∧
      (0x11 : Byte).getLsbD 7 = false ∧ writeLocked off 0xFF40 = false ∧ off.ppu.lcdOn = false ∧ (0x91 : Byte).getLsbD 7 = true ∧
      off.dma.active = false := by decide

/-- Eleven overlapping entries, of which ten are taken; two sprites that cover one pixel, of which the left one wins. -/
theorem witness_SpriteSelectionAndPriority :
    (oamScan ((List.range 11).map fun i => (4 * i, (0x10 : Byte))) 0 8).map (·.index) = [0, 1, 2, 3, 4, 5, 6, 7, 8, 9] ∧
      (let p := { State.reset.ppu with lcdc := 0x93, sprites := [⟨0, 16, 12, 1, 0⟩, ⟨1, 16, 10, 1, 0⟩] }
       p.topSprite [(0x10, 0xFF)] 5 = some (⟨1, 16, 10, 1, 0⟩, 1) ∧ p.topSprite [(0x10, 0xFF)] 40 = none) := by decide

theorem witness_ApuSequencerAndMix :
    let a := { State.reset.apu with fsPrev := true, ch2 := { State.reset.apu.ch2 with on := true, len := 1, nr4 := 0x40 } }
    a.power = true ∧ a.fsPrev = true ∧ a.fsStep % 2 = 0 ∧ a.ch2.nr4.getLsbD 6 = true ∧ 0 < a.ch2.len ∧
      (a.sequencer false).ch2.on = false ∧ (a.sequencer false).fsStep = 1 ∧ a.ch1.volume ≤ 15 ∧ a.ch2.volume ≤ 15 ∧
      a.ch4.volume ≤ 15 := by decide

theorem witness_JoypadReadsAndEvents :
    State.reset.host.events = [] ∧ (pad 0x10 []).joypad.pressed .a = false ∧ (pad 0x10 []).joypad.selAction = false ∧
      (joypadUpdate (pad 0x10 []) ⟨.a, true⟩).intr.iflag = 0b10001 := by decide

end Sys2Proof.Tests
end

section
/-! PROOFS. Every defined instruction completes at the M-cycles of its row and leaves the fatal state (O24): said once
for each shared operation that stores to the bus or depends on a condition, then for every instruction. -/

namespace Sys2Proof.Machine

open Sys2Proof.Claims

/-- `out` is a next state that leaves the fatal state of `s` and hands `n` M-cycles to the driver (R16, R20). -/
def Completes (s : State) (out : Result) (n : Nat) : Prop :=
  ∃ t, out = .next t ∧ t.opCycles = n ∧ t.cpu.fatal = s.cpu.fatal

theorem Completes.spend {s t : State} (n : Nat) (h : t.cpu.fatal = s.cpu.fatal) : Completes s (.next (t.spend n)) n :=
  ⟨_, rfl, rfl, h⟩

theorem Completes.ite {s t u : State} {n m : Nat} (b : Bool) (ht : Completes s (.next t) n)
    (hu : Completes s (.next u) m) : Completes s (.next (if b then t else u)) (if b then n else m) := by
  cases b
  · exact hu
  · exact ht

/-! ### What stores and pushes leave of the fatal state -/

theorem busWrite_fatal (s : State) (a : Word) (v : Byte) : (busWrite s a v).cpu.fatal = s.cpu.fatal :=
  congrArg Cpu.fatal (busWrite_cpu s a v)

theorem writeR8_fatal (s : State) (o : R8) (v : Byte) : (writeR8 s o v).cpu.fatal = s.cpu.fatal := by
  cases o with
  | reg r => exact Cpu.setReg_fatal s.cpu r v
  | atHl => exact busWrite_fatal s (s.pair .hl) v

theorem push16_fatal (s : State) (v : Word) : (push16 s v).cpu.fatal = s.cpu.fatal := by
  rw [push16_cpu]

/-! ### Stores -/

theorem storeHl_completes (v : Byte) (n : Nat) (s : State) : Completes s (.next (storeHl v n s)) n :=
  .spend n (busWrite_fatal s (s.pair .hl) v)

theorem storeA_completes (a : Word) (n : Nat) (s : State) : Completes s (.next (storeA a n s)) n :=
  .spend n (busWrite_fatal s a s.cpu.a)

/-- `LD (HL+),A` and `LD (HL-),A` move HL after the store (R316, R317). -/
theorem stepHl_storeA_completes (delta hl a : Word) (n : Nat) (s : State) :
    Completes s (.next (stepHl delta hl (storeA a n s))) n :=
  ⟨_, rfl, rfl, busWrite_fatal s a s.cpu.a⟩

theorem storeSp_completes (a : Word) (s : State) : Completes s (.next (storeSp a s)) 5 :=
  .spend 5 ((busWrite_fatal _ _ _).trans (busWrite_fatal _ _ _))

/-! ### Read, modify, write back -/

theorem incR8_completes (o : R8) (s : State) : Completes s (.next (incR8 o s)) (incCycles o) :=
  .spend _ (writeR8_fatal s o _)

theorem decR8_completes (o : R8) (s : State) : Completes s (.next (decR8 o s)) (incCycles o) :=
  .spend _ (writeR8_fatal s o _)

theorem cbRot_completes (op : Rot) (o : R8) (s : State) : Completes s (.next (cbRot op o s)) (cbCycles o) :=
  .spend _ (writeR8_fatal s o _)

theorem cbBit_completes (k : Nat) (o : R8) (s : State) : Completes s (.next (cbBit k o s)) (bitCycles o) :=
  .spend _ rfl

theorem cbRes_completes (k : Nat) (o : R8) (s : State) : Completes s (.next (cbRes k o s)) (cbCycles o) :=
  .spend _ (writeR8_fatal s o _)

theorem cbSet_completes (k : Nat) (o : R8) (s : State) : Completes s (.next (cbSet k o s)) (cbCycles o) :=
  .spend _ (writeR8_fatal s o _)

/-! ### Stack and control transfer -/

theorem pushPair_completes (p : StackPair) (s : State) : Completes s (.next (pushPair p s)) 4 :=
  .spend 4 (push16_fatal s _)

theorem restart_completes (n : Byte) (s : State) : Completes s (.next (restart n s)) 4 :=
  .spend 4 (push16_fatal s _)

theorem call_completes (a : Word) (s : State) : Completes s (.next (call a s)) 6 :=
  .spend 6 (push16_fatal s _)

/-- The model's condition is the rule's (R550). -/
theorem condHolds_eq_condOf (f : Flags) (cc : Cond) : condHolds f cc = condOf cc f := by
  cases cc <;> simp [condHolds, condOf]

theorem jumpRelIf_completes (cc : Cond) (e : Byte) (s : State) :
    Completes s (.next (jumpRelIf cc e s)) (if condOf cc s.cpu.f then 3 else 2) := by
  rw [← condHolds_eq_condOf]
  exact .ite _ (.spend 3 rfl) (.spend 2 rfl)

theorem jumpIf_completes (cc : Cond) (a : Word) (s : State) :
    Completes s (.next (jumpIf cc a s)) (if condOf cc s.cpu.f then 4 else 3) := by
  rw [← condHolds_eq_condOf]
  exact .ite _ (.spend 4 rfl) (.spend 3 rfl)

theorem callIf_completes (cc : Cond) (a : Word) (s : State) :
    Completes s (.next (callIf cc a s)) (if condOf cc s.cpu.f then 6 else 3) := by
  rw [← condHolds_eq_condOf]
  exact .ite _ (call_completes a s) (.spend 3 rfl)

theorem retIf_completes (cc : Cond) (s : State) :
    Completes s (.next (retIf cc s)) (if condOf cc s.cpu.f then 5 else 2) := by
  rw [← condHolds_eq_condOf]
  exact .ite _ (.spend 5 rfl) (.spend 2 rfl)

/-- STOP takes one M-cycle under either `stop_length` (R603). -/
theorem stopMode_completes (s : State) : Completes s (.next (stopMode s)) 1 := by
  refine .spend 1 ?_
  cases s.params.stopLength <;> rfl

/-! ### The CB rows (R601) -/

theorem cbCycles_r8Field (z : Nat) : cbCycles (r8Field z) = if z = 6 then 4 else 2 := by
  unfold r8Field
  split <;> simp_all [cbCycles]

theorem bitCycles_r8Field (z : Nat) : bitCycles (r8Field z) = if z = 6 then 3 else 2 := by
  unfold r8Field
  split <;> simp_all [bitCycles]

theorem field_20 (o2 : Byte) : field o2 2 0 = o2.toNat % 8 := by simp [field]

/-- The M-cycles of a CB row by the fields of its second byte: those of BIT for x = 1, else those of a write-back. -/
theorem cyclesOf_prefixCb (o2 : Byte) (f : Flags) :
    cyclesOf (.prefixCb o2) f =
      if field o2 7 6 = 1 then bitCycles (r8Field (field o2 2 0)) else cbCycles (r8Field (field o2 2 0)) := by
  have e : cyclesOf (.prefixCb o2) f =
    if o2.toNat % 8 = 6 then (if 0x40 ≤ o2.toNat ∧ o2.toNat < 0x80 then 3 else 4) else 2 := rfl
  rw [e, bitCycles_r8Field, cbCycles_r8Field, field_20, field_76]
  split_ifs <;> omega

theorem cbEntry_completes (o2 : Byte) (s : State) :
    Completes s (.next (cbEntry o2 s)) (cyclesOf (.prefixCb o2) s.cpu.f) := by
  rw [cyclesOf_prefixCb]
  unfold cbEntry
  generalize field o2 7 6 = x
  rcases x with _ | _ | _ | x
  · exact cbRot_completes _ _ s
  · exact cbBit_completes _ _ s
  · exact cbRes_completes _ _ s
  · exact cbSet_completes _ _ s

/-! ### Every instruction -/

/-- Every defined instruction completes at its row's M-cycles. The instructions no case names are those that only
change registers, flags or the control state of the CPU: what they leave is read off the update itself. -/
theorem exec_completes (i : Instr) (s : State) (h : ∀ x ∈ undefinedOps, i ≠ x.2) :
    Completes s (exec i s) (cyclesOf i s.cpu.f) := by
  cases i
  case undefinedD3 | undefinedDB | undefinedDD | undefinedE3 | undefinedE4 | undefinedEB | undefinedEC | undefinedED |
    undefinedF4 | undefinedFC | undefinedFD =>
    exact absurd h (by decide)
  case ldAtHlD8 | ldAtHlB | ldAtHlC | ldAtHlD | ldAtHlE | ldAtHlH | ldAtHlL | ldAtHlA =>
    exact storeHl_completes _ _ s
  case ldhAtA8A | ldAtA16A | ldAtBcA | ldAtDeA | ldAtCA =>
    exact storeA_completes _ _ s
  case ldAtHliA | ldAtHldA =>
    exact stepHl_storeA_completes _ _ _ _ s
  case ldAtA16Sp =>
    exact storeSp_completes _ s
  case incAtHl =>
    exact incR8_completes .atHl s
  case decAtHl =>
    exact decR8_completes .atHl s
  case rlcAtHl | rrcAtHl | rlAtHl | rrAtHl | slaAtHl | sraAtHl | swapAtHl | srlAtHl =>
    exact cbRot_completes _ .atHl s
  case res0AtHl | res1AtHl | res2AtHl | res3AtHl | res4AtHl | res5AtHl | res6AtHl | res7AtHl =>
    exact cbRes_completes _ .atHl s
  case set0AtHl | set1AtHl | set2AtHl | set3AtHl | set4AtHl | set5AtHl | set6AtHl | set7AtHl =>
    exact cbSet_completes _ .atHl s
  case prefixCb =>
    exact cbEntry_completes _ s
  case pushBc | pushDe | pushHl | pushAf =>
    exact pushPair_completes _ s
  case rst00 | rst08 | rst10 | rst18 | rst20 | rst28 | rst30 | rst38 =>
    exact restart_completes _ s
  case callA16 =>
    exact call_completes _ s
  case jrNzE8 | jrZE8 | jrNcE8 | jrCE8 =>
    exact jumpRelIf_completes _ _ s
  case jpNzA16 | jpZA16 | jpNcA16 | jpCA16 =>
    exact jumpIf_completes _ _ s
  case callNzA16 | callZA16 | callNcA16 | callCA16 =>
    exact callIf_completes _ _ s
  case retNz | retZ | retNc | retC =>
    exact retIf_completes _ s
  case stop =>
    exact stopMode_completes s
  all_goals exact ⟨_, rfl, rfl, rfl⟩

/-- Settles O24, by the case split of `exec_completes`. -/
theorem everyInstructionCompletes : Obligations.EveryInstructionCompletes := by
  unfold Obligations.EveryInstructionCompletes
  exact exec_completes

end Sys2Proof.Machine
end

section
/-! PROOFS. What the pieces of a step leave of the devices: used by every invariant about one of them. -/

namespace Sys2Proof.Machine

/-- A bus write is a register write, or it leaves the timer, the PPU and the APU. -/
theorem busWrite_io_or_devices (s : State) (a : Word) (v : Byte) :
    busWrite s a v = ioWrite s (a.toNat - 0xFF00) v ∨
      ((busWrite s a v).timer = s.timer ∧ (busWrite s a v).ppu = s.ppu ∧ (busWrite s a v).apu = s.apu) := by
  by_cases io : 0xFF00 ≤ a.toNat ∧ a.toNat < 0xFF80
  · rcases busWrite_cases s a v with e | e
    · exact .inr (e.symm ▸ ⟨rfl, rfl, rfl⟩)
    · exact .inl (e.trans (rawWrite_io s a v io))
  · obtain ⟨-, -, timer, apu, ppu, -⟩ := busWrite_devices s a v
    exact .inr ⟨timer (by omega), ppu (by omega) (by omega), apu (by omega)⟩

theorem flushSave_devices (s : State) :
    (flushSave s).timer = s.timer ∧ (flushSave s).ppu = s.ppu ∧ (flushSave s).apu = s.apu := by
  unfold flushSave
  split <;> exact ⟨rfl, rfl, rfl⟩

theorem flushSave_timer (s : State) : (flushSave s).timer = s.timer := (flushSave_devices s).1
theorem flushSave_ppu (s : State) : (flushSave s).ppu = s.ppu := (flushSave_devices s).2.1
theorem flushSave_apu (s : State) : (flushSave s).apu = s.apu := (flushSave_devices s).2.2

/-! ### What each device's part of an M-cycle leaves of the others, one lemma per device -/

theorem timerT_ppu (s : State) : (timerT s).ppu = s.ppu := (timerT_fixed s).2.1
theorem timerT_apu (s : State) : (timerT s).apu = s.apu := (timerT_fixed s).2.2.1
theorem dmaM_timer (s : State) : (dmaM s).timer = s.timer := (dmaM_fixed s).1
theorem dmaM_ppu (s : State) : (dmaM s).ppu = s.ppu := (dmaM_fixed s).2.1
theorem dmaM_apu (s : State) : (dmaM s).apu = s.apu := (dmaM_fixed s).2.2.1
theorem ppuDot_timer (s : State) : (ppuDot s).timer = s.timer := (ppuDot_fixed s).1
theorem ppuDot_apu (s : State) : (ppuDot s).apu = s.apu := (ppuDot_fixed s).2.2.1
theorem statUpdate_timer (s : State) : (statUpdate s).timer = s.timer := (statUpdate_fixed s).1
theorem statUpdate_apu (s : State) : (statUpdate s).apu = s.apu := (statUpdate_fixed s).2.2.1
theorem statUpdate_ppu (s : State) : (statUpdate s).ppu = s.ppu.latchLevels := (statUpdate_fixed s).2.2.2.2.2

end Sys2Proof.Machine
end

section
/-! PROOFS. Every step keeps the memory form (O36): a tick writes no array but OAM, and that through the DMA. -/

namespace Sys2Proof.Machine

/-- A device step that leaves OAM, wave RAM and the DMA leaves the memory form. -/
theorem DeviceStep.memForm {s t : State} (d : DeviceStep s t) (oam : t.oam = s.oam)
    (wave : t.apu.ch3.ram = s.apu.ch3.ram) (dma : t.dma = s.dma) (h : s.MemForm) : t.MemForm := by
  unfold State.MemForm
  rw [d.vram, d.wram, oam, d.hram, wave, d.cart, dma]
  exact h

theorem timerT_memForm (s : State) (h : s.MemForm) : (timerT s).MemForm := by
  obtain ⟨hdma, -, hapu, hoam, -⟩ := timerT_fixed s
  exact (timerT_device s).memForm hoam (by rw [hapu]) hdma h

theorem ppuDot_memForm (s : State) (h : s.MemForm) : (ppuDot s).MemForm := by
  obtain ⟨-, hdma, hapu, hoam⟩ := ppuDot_fixed s
  exact (ppuDot_device s).memForm hoam (by rw [hapu]) hdma h

theorem apuM_memForm (s : State) (h : s.MemForm) : (apuM s).MemForm := by
  obtain ⟨-, hdma, -, hoam, -⟩ := apuM_fixed s
  exact (apuM_device s).memForm hoam (apuM_waveRam s) hdma h

/-- Each piece of a step keeps the memory form. -/
theorem memForm_kept : Kept State.MemForm where
  cpu _ _ _ _ h := h
  write := busWrite_memForm
  timer := timerT_memForm
  dma := dmaM_memForm
  ppu := ppuDot_memForm
  apu := apuM_memForm
  iflag _ _ h := h
  joypad _ _ h := h
  events _ _ h := h
  flush := flushSave_memForm

/-- Settles O36: the memory form is kept by each piece of a step. -/
theorem everyStepKeepsMemoryForm : Obligations.EveryStepKeepsMemoryForm := by
  unfold Obligations.EveryStepKeepsMemoryForm
  exact memForm_kept.step

end Sys2Proof.Machine
end

section
/-! PROOFS. Every step keeps the PPU's form (O37). A dot is followed through its four parts (R780): the position moves,
the mode follows it, pixels are drawn, the STAT levels are remembered. The mode-3 length changes only on entry to mode
3, which happens at dot 80 and so inside any mode 3 of at least 172 dots. -/

namespace Sys2Proof.Machine

/-- The ranges of the PPU's form: what it says without looking at the mode or the LCD. -/
structure Ppu.InRange (p : Ppu) : Prop where
  ly : p.ly.toNat ≤ 153
  dot : p.dot < 456
  lenLow : 172 ≤ p.mode3Len
  lenHigh : p.mode3Len ≤ 289
  sprites : p.sprites.length ≤ 10
  rows : p.frame.length = 144
  columns : (p.frame.all fun row => decide (row.length = 160)) = true

/-- The mode is the one of R780 at the PPU's position. -/
def Ppu.ModeFits (p : Ppu) : Prop := p.mode = modeOf p.ly p.dot p.mode3Len

theorem Ppu.Form.inRange {p : Ppu} (h : p.Form) : p.InRange := by
  obtain ⟨ly, dot, lenLow, lenHigh, sprites, -, -, rows, columns⟩ := h
  exact ⟨ly, dot, lenLow, lenHigh, sprites, rows, columns⟩

theorem Ppu.Form.modeFits {p : Ppu} (h : p.Form) (on : p.lcdOn = true) : p.ModeFits := by
  obtain ⟨-, -, -, -, -, fits, -⟩ := h
  exact fits on

theorem Ppu.Form.stopped {p : Ppu} (h : p.Form) (off : p.lcdOn = false) : p.ly = 0 ∧ p.dot = 0 ∧ p.mode = .hblank := by
  obtain ⟨-, -, -, -, -, -, stopped, -⟩ := h
  exact stopped off

theorem Ppu.InRange.form {p : Ppu} (h : p.InRange) (fits : p.lcdOn = true → p.ModeFits)
    (stopped : p.lcdOn = false → p.ly = 0 ∧ p.dot = 0 ∧ p.mode = .hblank) : p.Form :=
  ⟨h.ly, h.dot, h.lenLow, h.lenHigh, h.sprites, fits, stopped, h.rows, h.columns⟩

/-! ### The parts of a dot (R780) -/

/-- A line before the last has a next one. -/
theorem ly_succ_le (ly : Byte) (h : ly.toNat ≤ 153) (last : ly ≠ 153) : (ly + 1).toNat ≤ 153 := by
  bv_omega

theorem advanceDot_inRange (s : State) (h : s.ppu.InRange) : (advanceDot s).ppu.InRange := by
  obtain ⟨ly, dot, lenLow, lenHigh, sprites, rows, columns⟩ := h
  rcases advanceDot_cases s with ⟨inLine, e⟩ | ⟨-, notLast, e⟩ | ⟨-, -, e⟩ <;> rw [e]
  · exact ⟨ly, by dsimp only; omega, lenLow, lenHigh, sprites, rows, columns⟩
  · exact ⟨ly_succ_le _ ly notLast, Nat.zero_lt_succ _, lenLow, lenHigh, sprites, rows, columns⟩
  · exact ⟨Nat.zero_le _, Nat.zero_lt_succ _, lenLow, lenHigh, sprites, rows, columns⟩

theorem modeOf_drawing (ly : Byte) (d len : Nat) :
    modeOf ly d len = .drawing ↔ ly.toNat < 144 ∧ 80 ≤ d ∧ d < 80 + len := by
  unfold modeOf
  split_ifs <;> simp <;> omega

/-- Dot 80 of a visible line is in mode 3, whatever its length. -/
theorem modeOf_at80 {ly : Byte} {d len : Nat} (line : ly.toNat < 144) (at80 : d = 80) (low : 172 ≤ len) :
    modeOf ly d len = .drawing := (modeOf_drawing ly d len).mpr ⟨line, by omega, by omega⟩

/-- Mode 3 is entered at dot 80 only. -/
theorem advanceDot_enters (s : State) (fits : s.ppu.ModeFits)
    (now : modeOf (advanceDot s).ppu.ly (advanceDot s).ppu.dot (advanceDot s).ppu.mode3Len = .drawing)
    (before : (advanceDot s).ppu.mode ≠ .drawing) : (advanceDot s).ppu.dot = 80 := by
  rw [modeOf_drawing] at now
  rcases advanceDot_cases s with ⟨-, e⟩ | ⟨-, -, e⟩ | ⟨-, -, e⟩ <;> rw [e] at now before ⊢
  · obtain ⟨line, low, high⟩ := now
    have out := mt (modeOf_drawing s.ppu.ly s.ppu.dot s.ppu.mode3Len).mpr (fits ▸ before)
    dsimp only at line low high ⊢
    omega
  · exact absurd now.2.1 (by decide : ¬ 80 ≤ 0)
  · exact absurd now.2.1 (by decide : ¬ 80 ≤ 0)

theorem enterDrawing_inRange (s : State) (h : s.ppu.InRange) : (enterDrawing s).ppu.InRange := by
  have ten := oamScan_length s.oam s.ppu.ly.toNat s.ppu.objHeight
  have len := mode3Length_bounds s.params.mode3Len
    { s.ppu with
      wyLatch := s.ppu.wyLatch || decide (s.ppu.ly = s.ppu.wy)
      sprites := oamScan s.oam s.ppu.ly.toNat s.ppu.objHeight
      windowDrawn := false } ten
  exact ⟨h.ly, h.dot, len.1, len.2, ten, h.rows, h.columns⟩

theorem enterHblank_inRange (s : State) (h : s.ppu.InRange) : (enterHblank s).ppu.InRange := by
  unfold enterHblank
  split
  · exact ⟨h.ly, h.dot, h.lenLow, h.lenHigh, h.sprites, h.rows, h.columns⟩
  · exact h

theorem enterMode_inRange (m : Mode) (s : State) (h : s.ppu.InRange) : (enterMode m s).ppu.InRange := by
  cases m with
  | hblank => exact enterHblank_inRange s h
  | vblank => exact h
  | oamScan => exact h
  | drawing => exact enterDrawing_inRange s h

/-- Only the entry to mode 3 gives a new mode-3 length. -/
theorem enterMode_mode3Len (m : Mode) (s : State) (h : m ≠ .drawing) :
    (enterMode m s).ppu.mode3Len = s.ppu.mode3Len := by
  cases m with
  | hblank =>
    unfold enterMode enterHblank
    dsimp only
    split <;> rfl
  | vblank => rfl
  | oamScan => rfl
  | drawing => exact absurd rfl h

theorem Ppu.InRange.withMode {p : Ppu} (h : p.InRange) (m : Mode) : Ppu.InRange { p with mode := m } :=
  ⟨h.ly, h.dot, h.lenLow, h.lenHigh, h.sprites, h.rows, h.columns⟩

theorem updateMode_inRange (s : State) (h : s.ppu.InRange) : (updateMode s).ppu.InRange := by
  unfold updateMode
  dsimp only
  split
  · exact h
  · exact enterMode_inRange _ _ (h.withMode _)

/-- After the mode part of a dot the mode fits, if mode 3 is entered at dot 80 only. -/
theorem updateMode_modeFits (s : State) (h : s.ppu.InRange)
    (enters : modeOf s.ppu.ly s.ppu.dot s.ppu.mode3Len = .drawing → s.ppu.mode ≠ .drawing → s.ppu.dot = 80) :
    (updateMode s).ppu.ModeFits := by
  unfold updateMode
  dsimp only
  split
  · exact Eq.symm ‹_›
  · rename_i changed
    have inRange := enterMode_inRange (modeOf s.ppu.ly s.ppu.dot s.ppu.mode3Len)
      { s with ppu := { s.ppu with mode := modeOf s.ppu.ly s.ppu.dot s.ppu.mode3Len } } (h.withMode _)
    obtain ⟨ly, dot, mode, -, -⟩ := enterMode_position (modeOf s.ppu.ly s.ppu.dot s.ppu.mode3Len)
      { s with ppu := { s.ppu with mode := modeOf s.ppu.ly s.ppu.dot s.ppu.mode3Len } }
    unfold Ppu.ModeFits
    rw [ly, dot, mode]
    dsimp only
    by_cases draw : modeOf s.ppu.ly s.ppu.dot s.ppu.mode3Len = .drawing
    · have at80 := enters draw fun e => changed (draw.trans e.symm)
      exact draw.trans (modeOf_at80 ((modeOf_drawing _ _ _).mp draw).1 at80 inRange.lenLow).symm
    · rw [enterMode_mode3Len _ _ draw]

theorem renderDot_inRange (s : State) (h : s.ppu.InRange) : (renderDot s).ppu.InRange := by
  unfold renderDot
  dsimp only
  split
  · refine ⟨h.ly, h.dot, h.lenLow, h.lenHigh, h.sprites, List.length_set.trans h.rows, ?_⟩
    have columns := h.columns
    simp only [List.all_eq_true, decide_eq_true_eq] at columns ⊢
    intro row mem
    rcases List.mem_or_eq_of_mem_set mem with old | new
    · exact columns row old
    · rw [new]
      simp
  · exact h

theorem renderDot_mode3Len (s : State) : (renderDot s).ppu.mode3Len = s.ppu.mode3Len := by
  unfold renderDot
  dsimp only
  split <;> rfl

theorem renderDot_modeFits (s : State) (h : s.ppu.ModeFits) : (renderDot s).ppu.ModeFits := by
  obtain ⟨ly, dot, -, -, mode⟩ := renderDot_position s
  unfold Ppu.ModeFits
  rw [ly, dot, mode, renderDot_mode3Len]
  exact h

/-- Remembering the STAT levels is no part of the form. -/
theorem statUpdate_ppuForm (s : State) (h : s.ppu.Form) : (statUpdate s).ppu.Form := by
  rw [statUpdate_ppu]
  exact h

theorem ppuDot_ppuForm (s : State) (h : s.ppu.Form) : (ppuDot s).ppu.Form := by
  cases on : s.ppu.lcdOn with
  | false => rwa [ppuDot_off s on]
  | true =>
    unfold ppuDot
    rw [if_pos on]
    have moved := advanceDot_inRange s h.inRange
    have fits := renderDot_modeFits _ <| updateMode_modeFits _ moved (advanceDot_enters s (h.modeFits on))
    have lit : (renderDot (updateMode (advanceDot s))).ppu.lcdOn = true := by
      obtain ⟨-, -, same, -⟩ := ppuDot_position s on
      unfold ppuDot at same
      rw [if_pos on, statUpdate_ppu, Ppu.latchLevels_lcdc] at same
      unfold Ppu.lcdOn
      rwa [same]
    refine statUpdate_ppuForm _ ((renderDot_inRange _ (updateMode_inRange _ moved)).form (fun _ => fits) fun off => ?_)
    rw [lit] at off
    cases off

/-! ### Register writes (R785) -/

theorem Ppu.lcdOn_withLcdc (p : Ppu) (v : Byte) : Ppu.lcdOn { p with lcdc := v } = v.getLsbD 7 := rfl

theorem Ppu.writeLcdc_stops (p : Ppu) (v : Byte) (on : p.lcdOn = true) (off : v.getLsbD 7 = false) :
    p.writeLcdc v = { p with lcdc := v, ly := 0, dot := 0, mode := .hblank } := by
  simp only [Ppu.writeLcdc, Ppu.lcdOn_withLcdc, on, off]
  rfl

theorem Ppu.writeLcdc_starts (p : Ppu) (v : Byte) (off : p.lcdOn = false) (on : v.getLsbD 7 = true) :
    p.writeLcdc v =
      { p with
        lcdc := v, ly := 0, dot := 0, mode := .oamScan, windowLine := 0, wyLatch := false, windowDrawn := false } := by
  simp only [Ppu.writeLcdc, Ppu.lcdOn_withLcdc, on, off]
  rfl

theorem Ppu.writeLcdc_same (p : Ppu) (v : Byte) (same : v.getLsbD 7 = p.lcdOn) :
    p.writeLcdc v = { p with lcdc := v } := by
  simp only [Ppu.writeLcdc, Ppu.lcdOn_withLcdc, same]
  cases p.lcdOn <;> rfl

theorem Ppu.Form.writeLcdc {p : Ppu} (h : p.Form) (v : Byte) : (p.writeLcdc v).Form := by
  obtain ⟨ly, dot, lenLow, lenHigh, sprites, rows, columns⟩ := h.inRange
  by_cases same : v.getLsbD 7 = p.lcdOn
  · rw [p.writeLcdc_same v same]
    exact Ppu.InRange.form ⟨ly, dot, lenLow, lenHigh, sprites, rows, columns⟩
      (fun on => h.modeFits (same.symm.trans on)) fun off => h.stopped (same.symm.trans off)
  · cases on : p.lcdOn with
    | true =>
      have off : v.getLsbD 7 = false := by simpa [on] using same
      rw [p.writeLcdc_stops v on off]
      exact Ppu.InRange.form ⟨Nat.zero_le _, Nat.zero_lt_succ _, lenLow, lenHigh, sprites, rows, columns⟩
        (fun lit => Bool.noConfusion (off.symm.trans lit)) fun _ => ⟨rfl, rfl, rfl⟩
    | false =>
      have lit : v.getLsbD 7 = true := by simpa [on] using same
      rw [p.writeLcdc_starts v on lit]
      exact Ppu.InRange.form ⟨Nat.zero_le _, Nat.zero_lt_succ _, lenLow, lenHigh, sprites, rows, columns⟩
        (fun _ => rfl) fun off => Bool.noConfusion (lit.symm.trans off)

theorem ioWrite_ppuForm (s : State) (r : Nat) (v : Byte) (h : s.ppu.Form) : (ioWrite s r v).ppu.Form := by
  unfold ioWrite
  split
  case h_9 => exact statUpdate_ppuForm { s with ppu := s.ppu.writeLcdc v } (h.writeLcdc v)
  case h_10 => exact statUpdate_ppuForm { s with ppu := s.ppu.writeStat v } h
  case h_13 => exact statUpdate_ppuForm { s with ppu := { s.ppu with lyc := v } } h
  case h_21 => split <;> exact h
  all_goals exact h

/-- Only a register write can touch the PPU. -/
theorem busWrite_ppuForm (s : State) (a : Word) (v : Byte) (h : s.ppu.Form) : (busWrite s a v).ppu.Form := by
  rcases busWrite_io_or_devices s a v with e | ⟨-, same, -⟩
  · rw [e]
    exact ioWrite_ppuForm s _ v h
  · rwa [same]

/-! ### The step -/

/-- Each piece of a step keeps the PPU's form. -/
theorem ppuForm_kept : Kept fun s => s.ppu.Form where
  cpu _ _ _ _ h := h
  write := busWrite_ppuForm
  timer s h := by rwa [timerT_ppu]
  dma s h := by rwa [dmaM_ppu]
  ppu := ppuDot_ppuForm
  apu s h := h
  iflag _ _ h := h
  joypad _ _ h := h
  events _ _ h := h
  flush s h := by rwa [flushSave_ppu]

/-- Settles O37: the PPU's form is kept by each piece of a step. -/
theorem everyStepKeepsPpuForm : Obligations.EveryStepKeepsPpuForm := by
  unfold Obligations.EveryStepKeepsPpuForm
  exact ppuForm_kept.step

end Sys2Proof.Machine
end

section
/-! PROOFS. A step from start to end: it runs the CPU's part, which raises Fatal or hands over the M-cycles of what it
ran, and, unless Fatal was raised, finishes with the latch, the ticks, the evaluation and the flush (R700, R800). From
this the master cycle accounting (O32). -/

namespace Sys2Proof.Machine

open Sys2Proof.Claims

/-- What a step that answers has done. -/
theorem step_cases {s t : State} (e : step s = .next t) :
    s.cpu.fatal = none ∧ ∃ u, runCpu (pollJoypad s) = .next u ∧
      ((u.cpu.fatal ≠ none ∧ t = u) ∨
        (u.cpu.fatal = none ∧ t = finishStep (pollJoypad s).cpu.imePending (pollJoypad s).host.framesDone u)) := by
  cases live : s.cpu.fatal with
  | some x =>
    rw [step_fatal s x live] at e
    cases e
  | none =>
    obtain ⟨u, run⟩ := runCpu_next (pollJoypad s)
    rw [step_live s live, run] at e
    unfold afterCpu at e
    dsimp only at e
    refine ⟨rfl, u, run, ?_⟩
    cases raised : u.cpu.fatal with
    | some x =>
      simp only [raised, Option.isSome_some, if_true] at e
      cases e
      exact .inl ⟨Option.some_ne_none x, rfl⟩
    | none =>
      simp only [raised, Option.isSome_none] at e
      cases e
      exact .inr ⟨rfl, rfl⟩

/-! ### The CPU's part -/

theorem exec_undefined (s : State) (x : Byte × Instr) (h : x ∈ undefinedOps) :
    exec x.2 s = .next (raiseFatal s x.1) := by
  simp only [undefinedOps, List.mem_cons, List.not_mem_nil, or_false] at h
  rcases h with rfl | rfl | rfl | rfl | rfl | rfl | rfl | rfl | rfl | rfl | rfl <;> rfl

theorem exec_masterCycles (i : Instr) (s t : State) (e : exec i s = .next t) : t.masterCycles = s.masterCycles := by
  obtain ⟨ws, c, n, -, e'⟩ := exec_effect i s
  rw [e'] at e
  cases e
  obtain ⟨-, -, master, -⟩ := stores_fixed ws s
  exact master

theorem runCpu_masterCycles (s t : State) (e : runCpu s = .next t) : t.masterCycles = s.masterCycles := by
  by_cases run : s.cpu.halt = .running
  · rw [runCpu_running s run] at e
    exact exec_masterCycles _ (pastInstr (fetched s) s) t e
  · rw [runCpu_idle s run] at e
    cases e
    rfl

/-- The M-cycles of the CPU's part: the instruction's, or one idle M-cycle (R745). -/
def cpuCycles (s : State) : Nat := if s.cpu.halt = .running then cyclesOf (fetched s) s.cpu.f else 1

/-- From a live state the CPU's part raises Fatal and hands over nothing new, or completes with its M-cycles. -/
theorem runCpu_cases {s t : State} (live : s.cpu.fatal = none) (e : runCpu s = .next t) :
    (t.cpu.fatal ≠ none ∧ t.opCycles = s.opCycles) ∨ (t.cpu.fatal = none ∧ t.opCycles = cpuCycles s) := by
  unfold cpuCycles
  by_cases run : s.cpu.halt = .running
  · rw [runCpu_running s run, execute] at e
    rw [if_pos run]
    by_cases defined : ∀ x ∈ undefinedOps, fetched s ≠ x.2
    · obtain ⟨u, done, cycles, same⟩ := exec_completes (fetched s) (pastInstr (fetched s) s) defined
      rw [done] at e
      cases e
      exact .inr ⟨same.trans live, cycles⟩
    · obtain ⟨x, mem, same⟩ : ∃ x ∈ undefinedOps, fetched s = x.2 := by simpa using defined
      rw [same, exec_undefined _ x mem] at e
      cases e
      exact .inl ⟨Option.some_ne_none _, rfl⟩
  · rw [runCpu_idle s run] at e
    cases e
    rw [if_neg run]
    exact .inr ⟨live, rfl⟩

/-! ### The poll, the latch and the end of a step -/

theorem pollJoypad_counts (s : State) :
    (pollJoypad s).masterCycles = s.masterCycles ∧ (pollJoypad s).opCycles = s.opCycles := by
  obtain ⟨_, _, e, -⟩ := pollJoypad_fixed s
  rw [e]
  exact ⟨rfl, rfl⟩

theorem imeLatch_counts (was : Bool) (s : State) :
    (imeLatch was s).masterCycles = s.masterCycles ∧ (imeLatch was s).cpu.fatal = s.cpu.fatal := by
  unfold imeLatch
  split <;> exact ⟨rfl, rfl⟩

theorem saveFlush_counts (frames : Nat) (s : State) :
    (saveFlush frames s).masterCycles = s.masterCycles ∧ (saveFlush frames s).opCycles = s.opCycles := by
  unfold saveFlush
  split
  · obtain ⟨-, master, op, -⟩ := flushSave_fixed s
    exact ⟨master, op⟩
  · exact ⟨rfl, rfl⟩

theorem finishStep_opCycles (was : Bool) (frames : Nat) (s : State) : (finishStep was frames s).opCycles = 0 :=
  (saveFlush_counts _ _).2

/-- What the end of a step adds to the master cycles, and that it leaves the fatal state. -/
theorem finishStep_counts (was : Bool) (frames : Nat) (s : State) :
    let d := (evaluateInterrupts (tick s.opCycles (imeLatch was s))).2
    (finishStep was frames s).masterCycles = s.masterCycles + s.opCycles + d ∧
    (finishStep was frames s).cpu.fatal = s.cpu.fatal ∧
    (d = 0 ∨ d = 5 ∧ (finishStep was frames s).cpu.ime = false) := by
  obtain ⟨master, fatal, cost⟩ := evaluateInterrupts_counts (tick s.opCycles (imeLatch was s))
  have device := tick_device s.opCycles (imeLatch was s)
  obtain ⟨latchMaster, latchFatal⟩ := imeLatch_counts was s
  dsimp only [finishStep]
  rw [saveFlush_cpu, (saveFlush_counts _ _).1]
  refine ⟨?_, ?_, cost⟩
  · simp only [countCycles]
    rw [master, device.masterCycles, latchMaster]
  · simp only [countCycles]
    rw [fatal, device.cpu, latchFatal]

/-- Settles O32: the cases of the step, with what each part leaves of the counts. -/
theorem masterCycleAccounting : Obligations.MasterCycleAccounting := by
  unfold Obligations.MasterCycleAccounting
  intro s t e
  obtain ⟨live, u, run, ended⟩ := step_cases e
  have live' : (pollJoypad s).cpu.fatal = none := by rw [pollJoypad_cpu, live]
  have master : u.masterCycles = s.masterCycles :=
    (runCpu_masterCycles _ _ run).trans (pollJoypad_counts s).1
  rcases ended with ⟨raised, rfl⟩ | ⟨done, rfl⟩
  · exact ⟨fun _ => master, fun none => absurd none raised⟩
  · obtain ⟨counts, fatal, cost⟩ := finishStep_counts (pollJoypad s).cpu.imePending (pollJoypad s).host.framesDone u
    refine ⟨fun raised => absurd (fatal.trans done) raised, fun _ => ⟨u, run, cost, ?_, finishStep_opCycles _ _ u⟩⟩
    rcases runCpu_cases live' run with ⟨raised, -⟩ | ⟨-, cycles⟩
    · exact absurd done raised
    · rw [counts, master, cycles, cpuCycles, pollJoypad_cpu]

end Sys2Proof.Machine
end

section
/-! PROOFS. Every step keeps the APU's and the driver's form (O38). The APU's form is taken apart into one form per
channel (under the power), the sequencer step and the sweep shadow; every clock, T-cycle and register write is then
followed channel by channel. -/

namespace Sys2Proof.Machine

/-! ### One form per channel (R103, R794, R796) -/

/-- A square channel under the power `power`: off without it, on only with its DAC, counters in range. -/
structure Square.Fits (power : Bool) (c : Square) : Prop where
  off : power = false → c.on = false
  dac : c.on = true → dacOn c.nr2 = true
  len : c.len ≤ 64
  volume : c.volume ≤ 15
  duty : c.dutyPos < 8

/-- Channel 3 under the power `power`. -/
structure WaveChannel.Fits (power : Bool) (c : WaveChannel) : Prop where
  off : power = false → c.on = false
  dac : c.on = true → c.dacOn = true
  len : c.len ≤ 256
  pos : c.pos < 32

/-- Channel 4 under the power `power`. -/
structure NoiseChannel.Fits (power : Bool) (c : NoiseChannel) : Prop where
  off : power = false → c.on = false
  dac : c.on = true → Machine.dacOn c.nr42 = true
  len : c.len ≤ 64
  volume : c.volume ≤ 15

/-- The APU's form by its parts. -/
structure Apu.Fits (a : Apu) : Prop where
  ch1 : a.ch1.Fits a.power
  ch2 : a.ch2.Fits a.power
  ch3 : a.ch3.Fits a.power
  ch4 : a.ch4.Fits a.power
  step : a.fsStep < 8
  shadow : a.sweep.shadow ≤ 2047

theorem Apu.form_iff_fits (a : Apu) : a.Form ↔ a.Fits := by
  constructor
  · rintro ⟨off, d1, d2, d3, d4, l1, l2, l3, l4, v1, v2, v4, p1, p2, p3, step, shadow⟩
    exact ⟨⟨fun h => (off h).1, d1, l1, v1, p1⟩, ⟨fun h => (off h).2.1, d2, l2, v2, p2⟩,
      ⟨fun h => (off h).2.2.1, d3, l3, p3⟩, ⟨fun h => (off h).2.2.2, d4, l4, v4⟩, step, shadow⟩
  · rintro ⟨⟨o1, d1, l1, v1, p1⟩, ⟨o2, d2, l2, v2, p2⟩, ⟨o3, d3, l3, p3⟩, ⟨o4, d4, l4, v4⟩, step, shadow⟩
    exact ⟨fun h => ⟨o1 h, o2 h, o3 h, o4 h⟩, d1, d2, d3, d4, l1, l2, l3, l4, v1, v2, v4, p1, p2, p3, step, shadow⟩

/-! ### What keeps a channel's form -/

/-- A channel whose DAC register stands, and which is not turned on or lengthened, keeps its form. -/
theorem Square.Fits.shrink {power : Bool} {c d : Square} (h : c.Fits power) (on : d.on = true → c.on = true)
    (nr2 : d.nr2 = c.nr2) (len : d.len ≤ c.len) (volume : d.volume ≤ 15) (duty : d.dutyPos < 8) : d.Fits power where
  off p := Bool.eq_false_iff.mpr fun e => Bool.noConfusion ((h.off p).symm.trans (on e))
  dac e := nr2 ▸ h.dac (on e)
  len := len.trans h.len
  volume := volume
  duty := duty

theorem WaveChannel.Fits.shrink {power : Bool} {c d : WaveChannel} (h : c.Fits power) (on : d.on = true → c.on = true)
    (dac : d.dacOn = c.dacOn) (len : d.len ≤ c.len) (pos : d.pos < 32) : d.Fits power where
  off p := Bool.eq_false_iff.mpr fun e => Bool.noConfusion ((h.off p).symm.trans (on e))
  dac e := dac ▸ h.dac (on e)
  len := len.trans h.len
  pos := pos

theorem NoiseChannel.Fits.shrink {power : Bool} {c d : NoiseChannel} (h : c.Fits power) (on : d.on = true → c.on = true)
    (nr42 : d.nr42 = c.nr42) (len : d.len ≤ c.len) (volume : d.volume ≤ 15) : d.Fits power where
  off p := Bool.eq_false_iff.mpr fun e => Bool.noConfusion ((h.off p).symm.trans (on e))
  dac e := nr42 ▸ h.dac (on e)
  len := len.trans h.len
  volume := volume

/-- What fits without power fits with it. -/
theorem Square.Fits.powered {power : Bool} {c : Square} (h : c.Fits power) : c.Fits true :=
  ⟨nofun, h.dac, h.len, h.volume, h.duty⟩

theorem WaveChannel.Fits.powered {power : Bool} {c : WaveChannel} (h : c.Fits power) : c.Fits true :=
  ⟨nofun, h.dac, h.len, h.pos⟩

theorem NoiseChannel.Fits.powered {power : Bool} {c : NoiseChannel} (h : c.Fits power) : c.Fits true :=
  ⟨nofun, h.dac, h.len, h.volume⟩

/-- A channel that is off fits whatever the power is. -/
theorem Square.Fits.silenced {power power' : Bool} {c : Square} (h : c.Fits power) :
    Square.Fits power' { c with on := false } := ⟨fun _ => rfl, nofun, h.len, h.volume, h.duty⟩

theorem WaveChannel.Fits.silenced {power power' : Bool} {c : WaveChannel} (h : c.Fits power) :
    WaveChannel.Fits power' { c with on := false } := ⟨fun _ => rfl, nofun, h.len, h.pos⟩

theorem NoiseChannel.Fits.silenced {power power' : Bool} {c : NoiseChannel} (h : c.Fits power) :
    NoiseChannel.Fits power' { c with on := false } := ⟨fun _ => rfl, nofun, h.len, h.volume⟩

/-! ### Frequency timers (R797) -/

theorem Square.Fits.tickT {power : Bool} {c : Square} (h : c.Fits power) : c.tickT.Fits power := by
  obtain ⟨on, len, volume, -, nr2, -, -, duty⟩ := c.tickT_fixed
  exact h.shrink (on ▸ id) nr2 len.le (volume ▸ h.volume) (duty h.duty)

theorem WaveChannel.Fits.tickT {power : Bool} {c : WaveChannel} (h : c.Fits power) : c.tickT.Fits power := by
  obtain ⟨on, len, dac, -, pos⟩ := c.tickT_fixed
  exact h.shrink (on ▸ id) dac len.le (pos h.pos)

theorem NoiseChannel.Fits.tickT {power : Bool} {c : NoiseChannel} (h : c.Fits power) : c.tickT.Fits power := by
  obtain ⟨on, len, volume, nr42⟩ := c.tickT_fixed
  exact h.shrink (on ▸ id) nr42 len.le (volume ▸ h.volume)

theorem Apu.Fits.tickT {a : Apu} (h : a.Fits) : a.tickT.Fits :=
  ⟨h.ch1.tickT, h.ch2.tickT, h.ch3.tickT, h.ch4.tickT, h.step, h.shadow⟩

/-! ### The frame sequencer (R790, R791, R793, R795) -/

theorem Apu.Fits.clockLengths {a : Apu} (h : a.Fits) : a.clockLengths.Fits where
  ch1 := by
    obtain ⟨len, on⟩ := lengthClock_le a.ch1.nr4 a.ch1.len a.ch1.on
    exact h.ch1.shrink on rfl len h.ch1.volume h.ch1.duty
  ch2 := by
    obtain ⟨len, on⟩ := lengthClock_le a.ch2.nr4 a.ch2.len a.ch2.on
    exact h.ch2.shrink on rfl len h.ch2.volume h.ch2.duty
  ch3 := by
    obtain ⟨len, on⟩ := lengthClock_le a.ch3.nr34 a.ch3.len a.ch3.on
    exact h.ch3.shrink on rfl len h.ch3.pos
  ch4 := by
    obtain ⟨len, on⟩ := lengthClock_le a.ch4.nr44 a.ch4.len a.ch4.on
    exact h.ch4.shrink on rfl len h.ch4.volume
  step := h.step
  shadow := h.shadow

theorem Apu.Fits.clockEnvelopes {a : Apu} (h : a.Fits) : a.clockEnvelopes.Fits where
  ch1 := h.ch1.shrink id rfl le_rfl (envelopeClock_le _ _ _ h.ch1.volume) h.ch1.duty
  ch2 := h.ch2.shrink id rfl le_rfl (envelopeClock_le _ _ _ h.ch2.volume) h.ch2.duty
  ch3 := h.ch3
  ch4 := h.ch4.shrink id rfl le_rfl (envelopeClock_le _ _ _ h.ch4.volume)
  step := h.step
  shadow := h.shadow

/-- A sweep clock moves nothing of channel 1 but its period and its on-state, nothing of the sequencer, and takes no
period above 2047. -/
theorem Apu.clockSweep_ranges (a : Apu) :
    a.clockSweep.ch1.nr2 = a.ch1.nr2 ∧ a.clockSweep.ch1.volume = a.ch1.volume ∧
    a.clockSweep.ch1.dutyPos = a.ch1.dutyPos ∧ a.clockSweep.fsStep = a.fsStep ∧
    (a.sweep.shadow ≤ 2047 → a.clockSweep.sweep.shadow ≤ 2047) := by
  unfold Apu.clockSweep
  dsimp only
  split
  · split
    · split
      · exact ⟨rfl, rfl, rfl, rfl, id⟩
      · rename_i inRange
        split
        · exact ⟨rfl, rfl, rfl, rfl, fun _ => Nat.le_of_not_lt inRange⟩
        · exact ⟨rfl, rfl, rfl, rfl, id⟩
    · exact ⟨rfl, rfl, rfl, rfl, id⟩
  · exact ⟨rfl, rfl, rfl, rfl, id⟩

theorem Apu.Fits.clockSweep {a : Apu} (h : a.Fits) : a.clockSweep.Fits := by
  obtain ⟨ch2, ch3, ch4, power, len, on⟩ := a.clockSweep_fixed
  obtain ⟨nr2, volume, duty, step, shadow⟩ := a.clockSweep_ranges
  refine ⟨?_, ?_, ?_, ?_, step ▸ h.step, shadow h.shadow⟩ <;> rw [power]
  · exact h.ch1.shrink on nr2 len.le (volume ▸ h.ch1.volume) (duty ▸ h.ch1.duty)
  · exact ch2 ▸ h.ch2
  · exact ch3 ▸ h.ch3
  · exact ch4 ▸ h.ch4

theorem Apu.Fits.frameStep {a : Apu} (h : a.Fits) : a.frameStep.Fits := by
  have lengths : (if a.fsStep % 2 = 0 then a.clockLengths else a).Fits := by
    split
    · exact h.clockLengths
    · exact h
  unfold Apu.frameStep
  dsimp only
  generalize (if a.fsStep % 2 = 0 then a.clockLengths else a) = b at *
  have sweep : (if a.fsStep = 2 ∨ a.fsStep = 6 then b.clockSweep else b).Fits := by
    split
    · exact lengths.clockSweep
    · exact lengths
  generalize (if a.fsStep = 2 ∨ a.fsStep = 6 then b.clockSweep else b) = c at *
  have envelopes : (if a.fsStep = 7 then c.clockEnvelopes else c).Fits := by
    split
    · exact sweep.clockEnvelopes
    · exact sweep
  exact ⟨envelopes.ch1, envelopes.ch2, envelopes.ch3, envelopes.ch4, Nat.mod_lt _ (by decide), envelopes.shadow⟩

theorem Apu.Fits.sequencer {a : Apu} (h : a.Fits) (bit12 : Bool) : (a.sequencer bit12).Fits := by
  have stepped : (if a.power && a.fsPrev && !bit12 then a.frameStep else a).Fits := by
    split
    · exact h.frameStep
    · exact h
  exact ⟨stepped.ch1, stepped.ch2, stepped.ch3, stepped.ch4, stepped.step, stepped.shadow⟩

theorem apuM_apuForm (s : State) (h : s.apu.Form) : (apuM s).apu.Form := by
  rw [Apu.form_iff_fits] at h ⊢
  exact (h.sequencer _).tickT.tickT.tickT.tickT

/-! ### Register writes (R791, R792, R794, R796) -/

/-- A trigger under power leaves a channel on only with its DAC, and its counters in range. -/
theorem Square.Fits.trigger {c : Square} (h : c.Fits true) : c.trigger.Fits true where
  off e := nomatch e
  dac := id
  len := by
    show (if c.len = 0 then 64 else c.len) ≤ 64
    split
    · exact le_rfl
    · exact h.len
  volume := by
    have := c.nr2.isLt
    show c.nr2.toNat / 16 ≤ 15
    omega
  duty := h.duty

theorem WaveChannel.Fits.trigger {c : WaveChannel} (h : c.Fits true) : c.trigger.Fits true where
  off e := nomatch e
  dac := id
  len := by
    show (if c.len = 0 then 256 else c.len) ≤ 256
    split
    · exact le_rfl
    · exact h.len
  pos := Nat.zero_lt_succ _

theorem NoiseChannel.Fits.trigger {c : NoiseChannel} (h : c.Fits true) : c.trigger.Fits true where
  off e := nomatch e
  dac := id
  len := by
    show (if c.len = 0 then 64 else c.len) ≤ 64
    split
    · exact le_rfl
    · exact h.len
  volume := by
    have := c.nr42.isLt
    show c.nr42.toNat / 16 ≤ 15
    omega

theorem Square.Fits.writeNr1 {power : Bool} {c : Square} (h : c.Fits power) (v : Byte) : (c.writeNr1 v).Fits power :=
  ⟨h.off, h.dac, Nat.sub_le _ _, h.volume, h.duty⟩

theorem Square.Fits.writeNr2 {c : Square} (h : c.Fits true) (v : Byte) : (c.writeNr2 v).Fits true :=
  ⟨nofun, fun e => (Bool.and_eq_true_iff.mp e).2, h.len, h.volume, h.duty⟩

/-- A write to a period register. -/
theorem Square.Fits.withPeriod {power : Bool} {c : Square} (h : c.Fits power) (nr3 nr4 : Byte) :
    Square.Fits power { c with nr3 := nr3, nr4 := nr4 } := ⟨h.off, h.dac, h.len, h.volume, h.duty⟩

section
variable {a : Apu} (h : a.Fits) (on : a.power = true)
include h on

theorem Apu.Fits.withCh1 {c : Square} (hc : c.Fits true) : Apu.Fits { a with ch1 := c } :=
  ⟨by rwa [← on] at hc, h.ch2, h.ch3, h.ch4, h.step, h.shadow⟩

theorem Apu.Fits.withCh2 {c : Square} (hc : c.Fits true) : Apu.Fits { a with ch2 := c } :=
  ⟨h.ch1, by rwa [← on] at hc, h.ch3, h.ch4, h.step, h.shadow⟩

theorem Apu.Fits.withCh3 {c : WaveChannel} (hc : c.Fits true) : Apu.Fits { a with ch3 := c } :=
  ⟨h.ch1, h.ch2, by rwa [← on] at hc, h.ch4, h.step, h.shadow⟩

theorem Apu.Fits.withCh4 {c : NoiseChannel} (hc : c.Fits true) : Apu.Fits { a with ch4 := c } :=
  ⟨h.ch1, h.ch2, h.ch3, by rwa [← on] at hc, h.step, h.shadow⟩

/-- A trigger of channel 1 may turn it off again by its overflow check, and loads the shadow from the 11-bit period. -/
theorem Apu.Fits.trigger1 : a.trigger1.Fits := by
  have ch1 := h.ch1.powered
  have kept : a.trigger1.ch1.Fits true :=
    ch1.trigger.shrink (fun e => (Bool.and_eq_true_iff.mp e).1) rfl le_rfl ch1.trigger.volume ch1.duty
  exact ⟨by rwa [← on] at kept, h.ch2, h.ch3, h.ch4, h.step, periodBits_le _ _⟩

theorem Apu.Fits.writePowered (r : Nat) (v : Byte) : (a.writePowered r v).Fits := by
  have ch1 := h.ch1.powered
  have ch2 := h.ch2.powered
  have ch3 := h.ch3.powered
  have ch4 := h.ch4.powered
  unfold Apu.writePowered
  split
  case h_1 => exact ⟨h.ch1, h.ch2, h.ch3, h.ch4, h.step, h.shadow⟩
  case h_2 => exact h.withCh1 on (ch1.writeNr1 v)
  case h_3 => exact h.withCh1 on (ch1.writeNr2 v)
  case h_4 => exact h.withCh1 on (ch1.withPeriod v _)
  case h_5 =>
    have stored := h.withCh1 on (ch1.withPeriod a.ch1.nr3 (storeNr4 v))
    dsimp only
    split
    · exact stored.trigger1 on
    · exact stored
  case h_6 => exact h.withCh2 on (ch2.writeNr1 v)
  case h_7 => exact h.withCh2 on (ch2.writeNr2 v)
  case h_8 => exact h.withCh2 on (ch2.withPeriod v _)
  case h_9 =>
    have stored := ch2.withPeriod a.ch2.nr3 (storeNr4 v)
    refine h.withCh2 on ?_
    split
    · exact stored.trigger
    · exact stored
  case h_10 => exact h.withCh3 on ⟨nofun, fun e => (Bool.and_eq_true_iff.mp e).2, ch3.len, ch3.pos⟩
  case h_11 => exact h.withCh3 on ⟨ch3.off, ch3.dac, Nat.sub_le _ _, ch3.pos⟩
  case h_12 => exact h.withCh3 on ⟨ch3.off, ch3.dac, ch3.len, ch3.pos⟩
  case h_13 => exact h.withCh3 on ⟨ch3.off, ch3.dac, ch3.len, ch3.pos⟩
  case h_14 =>
    have stored : WaveChannel.Fits true { a.ch3 with nr34 := storeNr4 v } := ⟨ch3.off, ch3.dac, ch3.len, ch3.pos⟩
    refine h.withCh3 on ?_
    split
    · exact stored.trigger
    · exact stored
  case h_15 => exact h.withCh4 on ⟨ch4.off, ch4.dac, Nat.sub_le _ _, ch4.volume⟩
  case h_16 => exact h.withCh4 on ⟨nofun, fun e => (Bool.and_eq_true_iff.mp e).2, ch4.len, ch4.volume⟩
  case h_17 => exact h.withCh4 on ⟨ch4.off, ch4.dac, ch4.len, ch4.volume⟩
  case h_18 =>
    have stored : NoiseChannel.Fits true { a.ch4 with nr44 := storeNr4 v } := ⟨ch4.off, ch4.dac, ch4.len, ch4.volume⟩
    refine h.withCh4 on ?_
    split
    · exact stored.trigger
    · exact stored
  case h_19 => exact ⟨h.ch1, h.ch2, h.ch3, h.ch4, h.step, h.shadow⟩
  case h_20 => exact ⟨h.ch1, h.ch2, h.ch3, h.ch4, h.step, h.shadow⟩
  case h_21 => exact h

end

/-- The power goes off with every channel, and comes on with every channel off (R794). -/
theorem Apu.Fits.writeNr52 {a : Apu} (h : a.Fits) (v : Byte) : (a.writeNr52 v).Fits := by
  unfold Apu.writeNr52
  split
  · split
    · exact h
    · exact ⟨h.ch1.powered, h.ch2.powered, h.ch3.powered, h.ch4.powered, Nat.zero_lt_succ _, h.shadow⟩
  · exact ⟨h.ch1.silenced, h.ch2.silenced, h.ch3.silenced, h.ch4.silenced, h.step, h.shadow⟩

theorem Apu.Fits.write {a : Apu} (h : a.Fits) (r : Nat) (v : Byte) : (a.write r v).Fits := by
  unfold Apu.write
  split
  · exact ⟨h.ch1, h.ch2, ⟨h.ch3.off, h.ch3.dac, h.ch3.len, h.ch3.pos⟩, h.ch4, h.step, h.shadow⟩
  · split
    · exact h.writeNr52 v
    · split
      · exact h.writePowered ‹_› r v
      · exact h

theorem ioWrite_apuForm (s : State) (r : Nat) (v : Byte) (h : s.apu.Form) : (ioWrite s r v).apu.Form := by
  have stat : ∀ p, (statUpdate { s with ppu := p }).apu.Form := fun p => by
    rw [statUpdate_apu]
    exact h
  unfold ioWrite
  split
  case h_9 => exact stat _
  case h_10 => exact stat _
  case h_13 => exact stat _
  case h_21 =>
    split
    · rw [Apu.form_iff_fits] at h ⊢
      exact h.write _ v
    · exact h
  all_goals exact h

/-- Only a register write can touch the APU. -/
theorem busWrite_apuForm (s : State) (a : Word) (v : Byte) (h : s.apu.Form) : (busWrite s a v).apu.Form := by
  rcases busWrite_io_or_devices s a v with e | ⟨-, -, same⟩
  · rw [e]
    exact ioWrite_apuForm s _ v h
  · rwa [same]

/-- Each piece of a step keeps the APU's form. -/
theorem apuForm_kept : Kept fun s => s.apu.Form where
  cpu _ _ _ _ h := h
  write := busWrite_apuForm
  timer s h := by rwa [timerT_apu]
  dma s h := by rwa [dmaM_apu]
  ppu s h := by rwa [ppuDot_apu]
  apu := apuM_apuForm
  iflag _ _ h := h
  joypad _ _ h := h
  events _ _ h := h
  flush s h := by rwa [flushSave_apu]

/-! ### The driver's form (R100, R763, log 11) -/

theorem Timer.incTima_reload (t : Timer) (h : t.reloadCountdown ≤ 4) : t.incTima.reloadCountdown ≤ 4 := by
  unfold Timer.incTima
  split
  · exact le_rfl
  · exact h

theorem Timer.count_reload (t : Timer) (h : t.reloadCountdown ≤ 4) : t.count.reloadCountdown ≤ 4 := by
  unfold Timer.count
  dsimp only
  split
  · exact Timer.incTima_reload _ h
  · exact h

theorem Timer.reload_reload (t : Timer) (h : t.reloadCountdown ≤ 4) : t.reload.1.reloadCountdown ≤ 4 := by
  unfold Timer.reload
  split
  · exact h
  · split
    · exact Nat.zero_le _
    · exact (Nat.sub_le _ _).trans h

theorem timerT_reload (s : State) (h : s.timer.reloadCountdown ≤ 4) : (timerT s).timer.reloadCountdown ≤ 4 := by
  rw [timerT_eq]
  split <;> exact Timer.count_reload _ (Timer.reload_reload _ h)

theorem Timer.writeDiv_reload (t : Timer) (h : t.reloadCountdown ≤ 4) : t.writeDiv.reloadCountdown ≤ 4 := by
  unfold Timer.writeDiv
  dsimp only
  split
  · exact t.incTima_reload h
  · exact h

theorem Timer.writeTac_reload (t : Timer) (glitch : Bool) (v : Byte) (h : t.reloadCountdown ≤ 4) :
    (t.writeTac glitch v).reloadCountdown ≤ 4 := by
  unfold Timer.writeTac
  dsimp only
  split
  · exact Timer.incTima_reload _ h
  · exact h

theorem ioWrite_reload (s : State) (r : Nat) (v : Byte) (h : s.timer.reloadCountdown ≤ 4) :
    (ioWrite s r v).timer.reloadCountdown ≤ 4 := by
  have stat : ∀ p, (statUpdate { s with ppu := p }).timer.reloadCountdown ≤ 4 := fun p => by
    rw [statUpdate_timer]
    exact h
  unfold ioWrite
  split
  case h_4 => exact Timer.writeDiv_reload _ h
  case h_5 => exact Nat.zero_le _
  case h_7 => exact Timer.writeTac_reload _ _ _ h
  case h_9 => exact stat _
  case h_10 => exact stat _
  case h_13 => exact stat _
  case h_21 => split <;> exact h
  all_goals exact h

/-- Only a register write can touch the timer. -/
theorem busWrite_reload (s : State) (a : Word) (v : Byte) (h : s.timer.reloadCountdown ≤ 4) :
    (busWrite s a v).timer.reloadCountdown ≤ 4 := by
  rcases busWrite_io_or_devices s a v with e | ⟨same, -⟩
  · rw [e]
    exact ioWrite_reload s _ v h
  · rwa [same]

/-- Each piece of a step keeps a pending reload at most four T-cycles away. -/
theorem reload_kept : Kept fun s => s.timer.reloadCountdown ≤ 4 where
  cpu _ _ _ _ h := h
  write := busWrite_reload
  timer := timerT_reload
  dma s h := by rwa [dmaM_timer]
  ppu s h := by rwa [ppuDot_timer]
  apu _ h := h
  iflag _ _ h := h
  joypad _ _ h := h
  events _ _ h := h
  flush s h := by rwa [flushSave_timer]

/-- A step leaves no cycles over: its end clears them, and one that raises Fatal hands none over. -/
theorem step_opCycles {s t : State} (h : s.opCycles = 0) (e : step s = .next t) : t.opCycles = 0 := by
  obtain ⟨live, u, run, ended⟩ := step_cases e
  rcases ended with ⟨raised, rfl⟩ | ⟨-, rfl⟩
  · rcases runCpu_cases (by rw [pollJoypad_cpu, live]) run with ⟨-, same⟩ | ⟨none, -⟩
    · exact same.trans ((pollJoypad_counts s).2.trans h)
    · exact absurd none raised
  · exact finishStep_opCycles _ _ u

/-- Settles O38: each piece of a step keeps the APU's form and the reload's range, and the cases of the step leave no
cycles over. -/
theorem everyStepKeepsApuAndDriverForm : Obligations.EveryStepKeepsApuAndDriverForm := by
  unfold Obligations.EveryStepKeepsApuAndDriverForm
  exact ⟨apuForm_kept.step, fun s t ⟨cycles, reload⟩ e => ⟨step_opCycles cycles e, reload_kept.step s t reload e⟩⟩

end Sys2Proof.Machine
end

section
/-! PROOFS. Which instructions can change the flags, IME, the EI latch and the run state (O25): the frame of each shared
operation that stores to the bus or depends on a condition, then of every instruction. -/

namespace Sys2Proof.Machine

open Sys2Proof.Claims

/-- The instructions that can change IME, the EI latch, the run state (R56, R57, R58). -/
def writesIme (i : Instr) : Bool :=
  match i with
  | .di | .reti => true
  | _ => false
def writesLatch (i : Instr) : Bool :=
  match i with
  | .di | .ei => true
  | _ => false
def writesRunState (i : Instr) : Bool :=
  match i with
  | .halt | .stop _ => true
  | _ => false

theorem writesIme_eq_false (i : Instr) (di : i ≠ .di) (reti : i ≠ .reti) : writesIme i = false := by
  unfold writesIme
  split
  · exact absurd rfl di
  · exact absurd rfl reti
  · rfl

theorem writesLatch_eq_false (i : Instr) (di : i ≠ .di) (ei : i ≠ .ei) : writesLatch i = false := by
  unfold writesLatch
  split
  · exact absurd rfl di
  · exact absurd rfl ei
  · rfl

theorem writesRunState_eq_false (i : Instr) (halt : i ≠ .halt) (stop : ∀ x, i ≠ .stop x) :
    writesRunState i = false := by
  unfold writesRunState
  split
  · exact absurd rfl halt
  · exact absurd rfl (stop _)
  · rfl

/-- `out` is a next state with the flags, IME, the EI latch and the run state of `s`, but for those whose mark is set:
of a marked one nothing is said. -/
def Confined (flags ime latch halt : Bool) (s : State) (out : Result) : Prop :=
  ∃ t, out = .next t ∧ (t.cpu.f = bif flags then t.cpu.f else s.cpu.f) ∧
    (t.cpu.ime = bif ime then t.cpu.ime else s.cpu.ime) ∧
    (t.cpu.imePending = bif latch then t.cpu.imePending else s.cpu.imePending) ∧
    (t.cpu.halt = bif halt then t.cpu.halt else s.cpu.halt)

theorem Confined.of_cpu_eq {s t : State} (same : t.cpu = s.cpu) : Confined false false false false s (.next t) :=
  ⟨t, rfl, congrArg Cpu.f same, congrArg Cpu.ime same, congrArg Cpu.imePending same, congrArg Cpu.halt same⟩

/-! ### Stores, write-backs and pushes -/

theorem storeHl_confined (v : Byte) (n : Nat) (s : State) :
    Confined false false false false s (.next (storeHl v n s)) := .of_cpu_eq (busWrite_cpu s _ v)

theorem storeA_confined (a : Word) (n : Nat) (s : State) :
    Confined false false false false s (.next (storeA a n s)) := .of_cpu_eq (busWrite_cpu s a _)

theorem stepHl_storeA_confined (delta hl a : Word) (n : Nat) (s : State) :
    Confined false false false false s (.next (stepHl delta hl (storeA a n s))) := by
  have same : (storeA a n s).cpu = s.cpu := busWrite_cpu s a _
  have stepped : (stepHl delta hl (storeA a n s)).cpu = s.cpu.setPair .hl (hl + delta) := same ▸ rfl
  refine ⟨_, rfl, ?_, ?_, ?_, ?_⟩ <;> rw [stepped] <;> rfl

theorem storeSp_confined (a : Word) (s : State) : Confined false false false false s (.next (storeSp a s)) :=
  .of_cpu_eq ((busWrite_cpu _ _ _).trans (busWrite_cpu s a _))

theorem writeR8_control (s : State) (o : R8) (v : Byte) :
    (writeR8 s o v).cpu.f = s.cpu.f ∧ (writeR8 s o v).cpu.ime = s.cpu.ime ∧
    (writeR8 s o v).cpu.imePending = s.cpu.imePending ∧ (writeR8 s o v).cpu.halt = s.cpu.halt := by
  cases o with
  | reg r => exact ⟨s.cpu.setReg_f r v, s.cpu.setReg_ime r v, s.cpu.setReg_imePending r v, s.cpu.setReg_halt r v⟩
  | atHl =>
    have same : (writeR8 s .atHl v).cpu = s.cpu := busWrite_cpu s _ v
    rw [same]
    exact ⟨rfl, rfl, rfl, rfl⟩

theorem incR8_confined (o : R8) (s : State) : Confined true false false false s (.next (incR8 o s)) :=
  ⟨_, rfl, rfl, (writeR8_control s o _).2⟩

theorem decR8_confined (o : R8) (s : State) : Confined true false false false s (.next (decR8 o s)) :=
  ⟨_, rfl, rfl, (writeR8_control s o _).2⟩

theorem cbRot_confined (op : Rot) (o : R8) (s : State) : Confined true false false false s (.next (cbRot op o s)) :=
  ⟨_, rfl, rfl, (writeR8_control s o _).2⟩

theorem cbBit_confined (k : Nat) (o : R8) (s : State) : Confined true false false false s (.next (cbBit k o s)) :=
  ⟨_, rfl, rfl, rfl, rfl, rfl⟩

theorem cbRes_confined (k : Nat) (o : R8) (s : State) : Confined false false false false s (.next (cbRes k o s)) :=
  ⟨_, rfl, writeR8_control s o _⟩

theorem cbSet_confined (k : Nat) (o : R8) (s : State) : Confined false false false false s (.next (cbSet k o s)) :=
  ⟨_, rfl, writeR8_control s o _⟩

theorem push16_control (s : State) (v : Word) :
    (push16 s v).cpu.f = s.cpu.f ∧ (push16 s v).cpu.ime = s.cpu.ime ∧
    (push16 s v).cpu.imePending = s.cpu.imePending ∧ (push16 s v).cpu.halt = s.cpu.halt := by
  rw [push16_cpu]
  exact ⟨rfl, rfl, rfl, rfl⟩

theorem pushPair_confined (p : StackPair) (s : State) : Confined false false false false s (.next (pushPair p s)) :=
  ⟨_, rfl, push16_control s _⟩

theorem restart_confined (n : Byte) (s : State) : Confined false false false false s (.next (restart n s)) :=
  ⟨_, rfl, push16_control s _⟩

theorem call_confined (a : Word) (s : State) : Confined false false false false s (.next (call a s)) :=
  ⟨_, rfl, push16_control s _⟩

/-! ### Conditional control transfer, STOP, the CB rows -/

theorem jumpRelIf_confined (cc : Cond) (e : Byte) (s : State) :
    Confined false false false false s (.next (jumpRelIf cc e s)) := by
  unfold jumpRelIf
  split <;> exact ⟨_, rfl, rfl, rfl, rfl, rfl⟩

theorem jumpIf_confined (cc : Cond) (a : Word) (s : State) :
    Confined false false false false s (.next (jumpIf cc a s)) := by
  unfold jumpIf
  split <;> exact ⟨_, rfl, rfl, rfl, rfl, rfl⟩

theorem callIf_confined (cc : Cond) (a : Word) (s : State) :
    Confined false false false false s (.next (callIf cc a s)) := by
  unfold callIf
  split
  · exact call_confined a s
  · exact ⟨_, rfl, rfl, rfl, rfl, rfl⟩

theorem retIf_confined (cc : Cond) (s : State) : Confined false false false false s (.next (retIf cc s)) := by
  unfold retIf
  split <;> exact ⟨_, rfl, rfl, rfl, rfl, rfl⟩

theorem stopMode_confined (s : State) : Confined false false false true s (.next (stopMode s)) := by
  unfold stopMode
  dsimp only
  split <;> exact ⟨_, rfl, rfl, rfl, rfl, rfl⟩

/-- RES and SET are the rows from 0x80 on. -/
theorem writesFlags_prefixCb (o2 : Byte) : writesFlags (.prefixCb o2) = decide (field o2 7 6 < 2) := by
  have e : writesFlags (.prefixCb o2) = decide (o2.toNat < 0x80) := rfl
  rw [e, field_76, decide_eq_decide]
  omega

theorem cbEntry_confined (o2 : Byte) (s : State) :
    Confined (writesFlags (.prefixCb o2)) false false false s (.next (cbEntry o2 s)) := by
  rw [writesFlags_prefixCb]
  unfold cbEntry
  generalize field o2 7 6 = x
  rcases x with _ | _ | _ | x
  · exact cbRot_confined _ _ s
  · exact cbBit_confined _ _ s
  · exact cbRes_confined _ _ s
  · rw [decide_eq_false (by omega)]
    exact cbSet_confined _ _ s

/-! ### Every instruction -/

/-- Every instruction leaves what it is not listed to write. The instructions no case names only update registers, flags
or the control state of the CPU: what they leave is read off the update itself. -/
theorem exec_confined (i : Instr) (s : State) :
    Confined (writesFlags i) (writesIme i) (writesLatch i) (writesRunState i) s (exec i s) := by
  cases i
  case ldAtHlD8 | ldAtHlB | ldAtHlC | ldAtHlD | ldAtHlE | ldAtHlH | ldAtHlL | ldAtHlA =>
    exact storeHl_confined _ _ s
  case ldhAtA8A | ldAtA16A | ldAtBcA | ldAtDeA | ldAtCA =>
    exact storeA_confined _ _ s
  case ldAtHliA | ldAtHldA =>
    exact stepHl_storeA_confined _ _ _ _ s
  case ldAtA16Sp =>
    exact storeSp_confined _ s
  case incAtHl =>
    exact incR8_confined .atHl s
  case decAtHl =>
    exact decR8_confined .atHl s
  case rlcAtHl | rrcAtHl | rlAtHl | rrAtHl | slaAtHl | sraAtHl | swapAtHl | srlAtHl =>
    exact cbRot_confined _ .atHl s
  case res0AtHl | res1AtHl | res2AtHl | res3AtHl | res4AtHl | res5AtHl | res6AtHl | res7AtHl =>
    exact cbRes_confined _ .atHl s
  case set0AtHl | set1AtHl | set2AtHl | set3AtHl | set4AtHl | set5AtHl | set6AtHl | set7AtHl =>
    exact cbSet_confined _ .atHl s
  case prefixCb =>
    exact cbEntry_confined _ s
  case pushBc | pushDe | pushHl | pushAf =>
    exact pushPair_confined _ s
  case rst00 | rst08 | rst10 | rst18 | rst20 | rst28 | rst30 | rst38 =>
    exact restart_confined _ s
  case callA16 =>
    exact call_confined _ s
  case jrNzE8 | jrZE8 | jrNcE8 | jrCE8 =>
    exact jumpRelIf_confined _ _ s
  case jpNzA16 | jpZA16 | jpNcA16 | jpCA16 =>
    exact jumpIf_confined _ _ s
  case callNzA16 | callZA16 | callNcA16 | callCA16 =>
    exact callIf_confined _ _ s
  case retNz | retZ | retNc | retC =>
    exact retIf_confined _ s
  case stop =>
    exact stopMode_confined s
  all_goals exact ⟨_, rfl, rfl, rfl, rfl, rfl⟩

/-- Settles O25: what each instruction is confined to, read for the ones that write none of it. -/
theorem writersOfFlagsAndControl : Obligations.WritersOfFlagsAndControl := by
  unfold Obligations.WritersOfFlagsAndControl
  intro i s t e
  obtain ⟨u, e', f, ime, latch, halt⟩ := exec_confined i s
  rw [e] at e'
  cases e'
  refine ⟨fun h => ?_, fun di reti => ?_, fun di ei => ?_, fun h stop => ?_⟩
  · rwa [h] at f
  · rwa [writesIme_eq_false i di reti] at ime
  · rwa [writesLatch_eq_false i di ei] at latch
  · rwa [writesRunState_eq_false i h stop] at halt

end Sys2Proof.Machine
end

section
/-! PROOFS. No step changes an image, what the header declared or a parameter, or maps the boot ROM again (O34). -/

namespace Sys2Proof.Machine

/-- `t` has the images, the header's declarations, the title and the parameters of `s`, and an unmapped boot ROM stays
so. -/
structure SameImages (s t : State) : Prop where
  rom : t.cart.rom = s.cart.rom
  romBanks : t.cart.romBanks = s.cart.romBanks
  ramSize : t.cart.ramSize = s.cart.ramSize
  hasRam : t.cart.hasRam = s.cart.hasRam
  battery : t.cart.battery = s.cart.battery
  params : t.params = s.params
  bootRom : t.boot.rom = s.boot.rom
  title : t.host.title = s.host.title
  unmapped : s.boot.mapped = false → t.boot.mapped = false

theorem SameImages.trans {s t u : State} (h : SameImages s t) (g : SameImages t u) : SameImages s u :=
  ⟨g.rom.trans h.rom, g.romBanks.trans h.romBanks, g.ramSize.trans h.ramSize, g.hasRam.trans h.hasRam,
    g.battery.trans h.battery, g.params.trans h.params, g.bootRom.trans h.bootRom, g.title.trans h.title,
    fun unmapped => g.unmapped (h.unmapped unmapped)⟩

theorem SameImages.refl (s : State) : SameImages s s := ⟨rfl, rfl, rfl, rfl, rfl, rfl, rfl, rfl, id⟩

theorem busWrite_sameImages (s : State) (a : Word) (v : Byte) : SameImages s (busWrite s a v) := by
  obtain ⟨rom, romBanks, ramSize, hasRam, battery, -⟩ := busWrite_images s a v
  exact ⟨rom, romBanks, ramSize, hasRam, battery, busWrite_params s a v, busWrite_bootRom s a v,
    congrArg HostPort.title (busWrite_host s a v), busWrite_mapped s a v⟩

theorem DeviceStep.sameImages {s t : State} (d : DeviceStep s t) : SameImages s t := by
  refine ⟨?_, ?_, ?_, ?_, ?_, d.params, ?_, d.title, ?_⟩ <;> simp only [d.cart, d.boot, imp_self]

theorem flushSave_sameImages (s : State) : SameImages s (flushSave s) := by
  unfold flushSave
  split <;> exact ⟨rfl, rfl, rfl, rfl, rfl, rfl, rfl, rfl, id⟩

/-- Each piece of a step keeps the images of the state the step started in. -/
theorem sameImages_kept (s : State) : Kept (SameImages s) where
  cpu _ _ _ _ h := h.trans ⟨rfl, rfl, rfl, rfl, rfl, rfl, rfl, rfl, id⟩
  write t a v h := h.trans (busWrite_sameImages t a v)
  timer t h := h.trans (timerT_device t).sameImages
  dma t h := h.trans (dmaM_device t).sameImages
  ppu t h := h.trans (ppuDot_device t).sameImages
  apu t h := h.trans (apuM_device t).sameImages
  iflag _ _ h := h.trans ⟨rfl, rfl, rfl, rfl, rfl, rfl, rfl, rfl, id⟩
  joypad _ _ h := h.trans ⟨rfl, rfl, rfl, rfl, rfl, rfl, rfl, rfl, id⟩
  events _ _ h := h.trans ⟨rfl, rfl, rfl, rfl, rfl, rfl, rfl, rfl, id⟩
  flush t h := h.trans (flushSave_sameImages t)

/-- Settles O34: each piece of a step keeps what the statement lists. -/
theorem imagesAndParametersNeverChange : Obligations.ImagesAndParametersNeverChange := by
  unfold Obligations.ImagesAndParametersNeverChange
  intro s t e
  obtain ⟨rom, romBanks, ramSize, hasRam, battery, params, bootRom, title, unmapped⟩ :=
    (sameImages_kept s).step s t (.refl s) e
  exact ⟨rom, romBanks, ramSize, hasRam, battery, params, bootRom, title, unmapped⟩

end Sys2Proof.Machine
end

section
/-! PROOFS. The save flush (O47): the image handed over reads as the cartridge RAM does, cell by cell, and lies within
the declared size. -/

namespace Sys2Proof.Machine

/-- An array listed cell by cell reads back each listed cell. -/
theorem Memory.read_map_range (f : Nat → Byte) (n i : Nat) (h : i < n) :
    Memory.read ((List.range n).map fun j => (j, f j)) i = f i := by
  have listed : ∀ l : List Nat, i ∈ l → Memory.read (l.map fun j => (j, f j)) i = f i := by
    intro l
    induction l with
    | nil => exact nofun
    | cons j l ih =>
      intro mem
      simp only [List.map_cons, Memory.read]
      split
      · exact congrArg f ‹_›
      · exact ih ((List.mem_cons.mp mem).resolve_left fun e => absurd e.symm ‹_›)
  exact listed _ (List.mem_range.mpr h)

theorem Cart.saveImage_read (c : Cart) (i : Nat) (h : i < c.ramSize) : Memory.read c.saveImage i = c.ramByte i := by
  unfold Cart.saveImage
  split
  · exact Memory.read_map_range c.ramByte c.ramSize i h
  · rename_i plain
    rw [Cart.ramByte, if_neg plain]

theorem Cart.saveImage_within (c : Cart) (h : c.Form) (x : Host.Cell) (mem : x ∈ c.saveImage) : x.1 < c.ramSize := by
  unfold Cart.saveImage at mem
  split at mem
  · obtain ⟨i, inside, rfl⟩ := List.mem_map.mp mem
    exact List.mem_range.mp inside
  · obtain ⟨-, ⟨-, within⟩, -⟩ := h
    exact of_decide_eq_true (List.all_eq_true.mp within x mem)

/-- The steps `save_flush_policy` flushes in, as the statement names them. -/
theorem flushesNow_iff (p : SaveFlush) (frames : Nat) (s : State) :
    flushesNow p frames s = true ↔
      match p with
      | .onFrame => s.host.framesDone ≠ frames
      | .everyStep => True
      | .onlyAtTeardown => False
      | .free => Config.flushFree s.masterCycles s.host.framesDone s.host.saves = true := by
  cases p with
  | onFrame => exact decide_eq_true_iff
  | everyStep => exact iff_of_true rfl trivial
  | onlyAtTeardown => exact iff_of_false Bool.false_ne_true id
  | free => exact Iff.rfl

theorem flushSave_dirty (s : State) (h : s.cart.dirty = true) :
    flushSave s =
      { s with
        cart := { s.cart with dirty := false }
        host := { s.host with saves := s.host.saves + 1, lastSave := some s.cart.saveImage } } := by
  rw [flushSave, if_pos h]

/-- Settles O47: by the policy and the dirty mark. -/
theorem saveFlushing : Obligations.SaveFlushing := by
  unfold Obligations.SaveFlushing
  intro frames s now
  have due : flushesNow s.params.saveFlush frames s = true ↔ now := flushesNow_iff s.params.saveFlush frames s
  unfold saveFlush
  refine ⟨fun dirty due' => ?_, fun idle => ?_⟩
  · rw [if_pos (due.mpr due')]
    exact ⟨s.cart.saveImage, flushSave_dirty s dirty, fun _ i h => s.cart.saveImage_read i h,
      fun ⟨_, _, _, _, _, cart, _⟩ x mem => s.cart.saveImage_within cart x mem⟩
  · rcases idle with clean | notDue
    · rw [flushSave_clean s clean, ite_self]
    · rw [if_neg (mt due.mp notDue)]

end Sys2Proof.Machine
end

section
/-! PROOFS. The I/O registers read back (O43): an idle DMA leaves them unlocked, so that a bus access is the access to
the register itself; the addresses without a register, and ROM and cartridge RAM without an MBC, ignore every write. -/

namespace Sys2Proof.Machine

open Sys2Proof.Claims

/-! ### Unlocked accesses from 0xFF00 on (R150 to R153) -/

theorem readLocked_high (s : State) (a : Word) (idle : s.dma.active = false) (high : 0xFF00 ≤ a.toNat) :
    readLocked s a = false := by
  have vram : isVram a = false := by simp [isVram]; omega
  have oam : isOam a = false := by simp [isOam]; omega
  simp only [readLocked, idle, vram, oam, Bool.false_and, Bool.or_false]

theorem writeLocked_high (s : State) (a : Word) (idle : s.dma.active = false) (high : 0xFF00 ≤ a.toNat) :
    writeLocked s a = false := by
  have vram : isVram a = false := by simp [isVram]; omega
  have oam : isOam a = false := by simp [isOam]; omega
  simp only [writeLocked, idle, vram, oam, Bool.false_and, Bool.or_false]

theorem busRead_high (s : State) (a : Word) (idle : s.dma.active = false) (high : 0xFF00 ≤ a.toNat) :
    busRead s a = rawRead s a := by
  rw [busRead, readLocked_high s a idle high]
  rfl

theorem busWrite_high (s : State) (a : Word) (v : Byte) (idle : s.dma.active = false) (high : 0xFF00 ≤ a.toNat) :
    busWrite s a v = rawWrite s a v := by
  rw [busWrite, writeLocked_high s a idle high]
  rfl

theorem rawWrite_at (s : State) (a : Word) (r : Nat) (v : Byte) (addr : a.toNat = 0xFF00 + r) (io : r < 0x80) :
    rawWrite s a v = ioWrite s r v := by
  rw [rawWrite_io s a v (by omega), show a.toNat - 0xFF00 = r by omega]

theorem rawRead_at (s : State) (a : Word) (r : Nat) (addr : a.toNat = 0xFF00 + r) (io : r < 0x80) :
    rawRead s a = ioRead s r := by
  rw [rawRead_io s a (by omega), show a.toNat - 0xFF00 = r by omega]

/-- Reading register `r` back, but the one that starts a DMA. -/
theorem busRead_busWrite_io (s : State) (a : Word) (r : Nat) (v : Byte) (idle : s.dma.active = false)
    (addr : a.toNat = 0xFF00 + r) (io : r < 0x80) (notDma : r ≠ 0x46) :
    busRead (busWrite s a v) a = ioRead (ioWrite s r v) r := by
  obtain ⟨-, -, -, -, -, dma, -⟩ := busWrite_devices s a v
  have idle' : (busWrite s a v).dma.active = false := by rw [dma (by omega), idle]
  rw [busRead_high _ a idle' (by omega), busWrite_high s a v idle (by omega), rawWrite_at s a r v addr io,
    rawRead_at _ a r addr io]

/-! ### The storage registers -/

theorem Ppu.writeLcdc_lcdc (p : Ppu) (v : Byte) : (p.writeLcdc v).lcdc = v := by
  unfold Ppu.writeLcdc
  dsimp only
  split
  · rfl
  · split <;> rfl

/-- A register that keeps every bit reads what was written. -/
theorem eq_zero_or_and_ff (v : Byte) : v = 0x00 ||| (v &&& 0xFF) := by
  revert v
  decide

theorem sc_bits (v : Byte) : 0x7E ||| ((v &&& 0x81) &&& 0x81) = 0x7E ||| (v &&& 0x81) := by
  revert v
  decide

theorem tac_bits (v : Byte) : BitVec.ofNat 8 (0xF8 + (BitVec.ofNat 3 v.toNat).toNat) = 0xF8 ||| (v &&& 0x07) := by
  revert v
  decide

theorem Timer.writeTac_tac (t : Timer) (glitch : Bool) (v : Byte) :
    (t.writeTac glitch v).tac = BitVec.ofNat 3 v.toNat := by
  unfold Timer.writeTac Timer.incTima
  dsimp only
  split
  · split <;> rfl
  · rfl

theorem iflag_bits (v : Byte) : BitVec.ofNat 8 (0xE0 + (BitVec.ofNat 5 v.toNat).toNat) = 0xE0 ||| (v &&& 0x1F) := by
  revert v
  decide

theorem lcdc_readBack (s : State) (v : Byte) : ioRead (ioWrite s 0x40 v) 0x40 = v := by
  show (statUpdate { s with ppu := s.ppu.writeLcdc v }).ppu.lcdc = v
  rw [statUpdate_ppu]
  exact s.ppu.writeLcdc_lcdc v

theorem lyc_readBack (s : State) (v : Byte) : ioRead (ioWrite s 0x45 v) 0x45 = v := by
  show (statUpdate { s with ppu := { s.ppu with lyc := v } }).ppu.lyc = v
  rw [statUpdate_ppu]
  rfl

theorem ie_readBack (s : State) (v : Byte) (idle : s.dma.active = false) :
    busRead (busWrite s 0xFFFF v) 0xFFFF = v := by
  have e : busWrite s 0xFFFF v = { s with intr := { s.intr with ie := v } } := by
    rw [busWrite_high s _ v idle (by decide), rawWrite_ie s _ v rfl]
  rw [e]
  refine (busRead_high _ 0xFFFF ?_ (by decide)).trans (rawRead_ie _ _ rfl)
  exact idle

theorem storageRegister_readBack (s : State) (v : Byte) (idle : s.dma.active = false) (x : Word × Byte × Byte)
    (mem : x ∈ storageRegisters) : busRead (busWrite s x.1 v) x.1 = x.2.1 ||| (v &&& x.2.2) := by
  have io := fun a r => busRead_busWrite_io s a r v idle
  simp only [storageRegisters, List.cons_append, List.nil_append, List.mem_cons, List.not_mem_nil, or_false] at mem
  rcases mem with rfl | rfl | rfl | rfl | rfl | rfl | rfl | rfl | rfl | rfl | rfl | rfl | rfl | rfl | rfl | rfl
  · exact (io 0xFF01 0x01 rfl (by decide) (by decide)).trans (eq_zero_or_and_ff v)
  · exact (io 0xFF02 0x02 rfl (by decide) (by decide)).trans (sc_bits v)
  · exact (io 0xFF05 0x05 rfl (by decide) (by decide)).trans (eq_zero_or_and_ff v)
  · exact (io 0xFF06 0x06 rfl (by decide) (by decide)).trans (eq_zero_or_and_ff v)
  · refine (io 0xFF07 0x07 rfl (by decide) (by decide)).trans (Eq.trans ?_ (tac_bits v))
    exact congrArg (fun t : BitVec 3 => BitVec.ofNat 8 (0xF8 + t.toNat)) (Timer.writeTac_tac _ _ v)
  · exact (io 0xFF0F 0x0F rfl (by decide) (by decide)).trans (iflag_bits v)
  · exact (io 0xFF40 0x40 rfl (by decide) (by decide)).trans ((lcdc_readBack s v).trans (eq_zero_or_and_ff v))
  · exact (io 0xFF42 0x42 rfl (by decide) (by decide)).trans (eq_zero_or_and_ff v)
  · exact (io 0xFF43 0x43 rfl (by decide) (by decide)).trans (eq_zero_or_and_ff v)
  · exact (io 0xFF45 0x45 rfl (by decide) (by decide)).trans ((lyc_readBack s v).trans (eq_zero_or_and_ff v))
  · exact (io 0xFF47 0x47 rfl (by decide) (by decide)).trans (eq_zero_or_and_ff v)
  · exact (io 0xFF48 0x48 rfl (by decide) (by decide)).trans (eq_zero_or_and_ff v)
  · exact (io 0xFF49 0x49 rfl (by decide) (by decide)).trans (eq_zero_or_and_ff v)
  · exact (io 0xFF4A 0x4A rfl (by decide) (by decide)).trans (eq_zero_or_and_ff v)
  · exact (io 0xFF4B 0x4B rfl (by decide) (by decide)).trans (eq_zero_or_and_ff v)
  · exact (ie_readBack s v idle).trans (eq_zero_or_and_ff v)

/-! ### DIV, LY, STAT -/

theorem div_readBack (s : State) (v : Byte) (idle : s.dma.active = false) :
    busRead (busWrite s 0xFF04 v) 0xFF04 = 0 := by
  rw [busRead_busWrite_io s 0xFF04 0x04 v idle rfl (by decide) (by decide)]
  show hiByte 0 = 0
  decide

theorem ly_ignores (s : State) (v : Byte) : busWrite s 0xFF44 v = s := by
  rcases busWrite_cases s 0xFF44 v with e | e
  · exact e
  · rw [e, rawWrite_at s 0xFF44 0x44 v rfl (by decide)]
    rfl

/-- STAT's bits in place: the ones it reads, the four it keeps of a write, the coincidence bit, the mode. -/
theorem stat_bits (v : Byte) (coincides : Prop) [Decidable coincides] (m : Mode) :
    BitVec.ofNat 8 (0x80 + (BitVec.ofNat 4 (v.toNat / 8)).toNat * 8 + (if coincides then 4 else 0) + m.code) =
      0x80 ||| (v &&& 0x78) ||| (if coincides then 0x04 else 0) ||| BitVec.ofNat 8 m.code := by
  by_cases h : coincides
  · simp only [if_pos h]
    revert v
    cases m <;> decide
  · simp only [if_neg h]
    revert v
    cases m <;> decide

theorem stat_readBack (s : State) (v : Byte) (idle : s.dma.active = false) :
    busRead (busWrite s 0xFF41 v) 0xFF41 =
      0x80 ||| (v &&& 0x78) ||| (if s.ppu.ly = s.ppu.lyc then 0x04 else 0) ||| BitVec.ofNat 8 s.ppu.mode.code := by
  rw [busRead_busWrite_io s 0xFF41 0x41 v idle rfl (by decide) (by decide), ← stat_bits]
  show (statUpdate { s with ppu := s.ppu.writeStat v }).ppu.readStat = _
  rw [statUpdate_ppu]
  rfl

/-! ### Addresses with nothing behind them (R98, R143) -/

/-- The low bytes 0x00–0x7F with no register (R98). -/
def unusedIo (r : Nat) : Prop :=
  r = 0x03 ∨ (0x08 ≤ r ∧ r ≤ 0x0E) ∨ r = 0x15 ∨ r = 0x1F ∨ (0x27 ≤ r ∧ r ≤ 0x2F) ∨ (0x4C ≤ r ∧ r ≤ 0x4F) ∨
    (0x51 ≤ r ∧ r ≤ 0x7F)

theorem Apu.read_unused (a : Apu) (r : Nat) (h : unusedIo r) (low : r ≤ 0x3F) : a.read r = 0xFF := by
  unfold unusedIo at h
  have notWave : ¬0x30 ≤ r := by omega
  unfold Apu.read
  split
  case h_22 => exact if_neg notWave
  all_goals exact absurd h (by omega)

theorem Apu.write_unused (a : Apu) (r : Nat) (v : Byte) (h : unusedIo r) (low : r ≤ 0x3F) : a.write r v = a := by
  unfold unusedIo at h
  rw [Apu.write, if_neg (by omega), if_neg (by omega)]
  split
  · unfold Apu.writePowered
    split
    case h_21 => rfl
    all_goals exact absurd h (by omega)
  · rfl

theorem ioRead_unused (s : State) (r : Nat) (h : unusedIo r) : ioRead s r = 0xFF := by
  unfold ioRead
  split
  case h_21 =>
    split
    · exact s.apu.read_unused r h (by omega)
    · rfl
  all_goals exact absurd h (by unfold unusedIo; omega)

theorem ioWrite_unused (s : State) (r : Nat) (v : Byte) (h : unusedIo r) : ioWrite s r v = s := by
  unfold ioWrite
  split
  case h_21 =>
    split
    · rw [s.apu.write_unused r v h (by omega)]
    · rfl
  all_goals exact absurd h (by unfold unusedIo; omega)

/-- Where the memory map reads 0xFF, a CPU read does, locked or not. -/
theorem busRead_of_rawRead_ff (s : State) (a : Word) (h : rawRead s a = 0xFF) : busRead s a = 0xFF := by
  rw [busRead, h, ite_self]

/-- Where the memory map ignores a write, a CPU write is ignored, locked or not. -/
theorem busWrite_of_rawWrite_same (s : State) (a : Word) (v : Byte) (h : rawWrite s a v = s) : busWrite s a v = s := by
  rw [busWrite, h, ite_self]

theorem prohibited_ignores (s : State) (a : Word) (v : Byte) (h : 0xFEA0 ≤ a.toNat ∧ a.toNat < 0xFF00) :
    busRead s a = 0xFF ∧ busWrite s a v = s :=
  ⟨busRead_of_rawRead_ff s a (rawRead_prohibited s a h), busWrite_of_rawWrite_same s a v (rawWrite_prohibited s a v h)⟩

theorem unusedIo_ignores (s : State) (a : Word) (v : Byte) (io : 0xFF00 ≤ a.toNat ∧ a.toNat < 0xFF80)
    (h : unusedIo (a.toNat - 0xFF00)) : busRead s a = 0xFF ∧ busWrite s a v = s :=
  ⟨busRead_of_rawRead_ff s a ((rawRead_io s a io).trans (ioRead_unused s _ h)),
    busWrite_of_rawWrite_same s a v ((rawWrite_io s a v io).trans (ioWrite_unused s _ v h))⟩

/-! ### No MBC (R175) -/

theorem Cart.writeRom_none (c : Cart) (a : Nat) (v : Byte) (h : c.mbc = .none) : c.writeRom a v = c := by
  obtain ⟨rom, hasRam, battery, romBanks, ramSize, mbc, ram, dirty⟩ := c
  subst h
  rfl

theorem Cart.ramIndex_none (c : Cart) (a : Nat) (h : c.mbc = .none) : c.ramIndex a = none := by
  rw [Cart.ramIndex, h]

theorem rom_ignores (s : State) (a : Word) (v : Byte) (h : s.cart.mbc = .none) (rom : a.toNat < 0x8000) :
    busWrite s a v = s := by
  refine busWrite_of_rawWrite_same s a v ?_
  rw [rawWrite_rom s a v rom, s.cart.writeRom_none _ v h]

theorem cartRam_ignores (s : State) (a : Word) (v : Byte) (h : s.cart.mbc = .none)
    (ram : 0xA000 ≤ a.toNat ∧ a.toNat < 0xC000) : busRead s a = 0xFF ∧ busWrite s a v = s := by
  refine ⟨busRead_of_rawRead_ff s a ?_, busWrite_of_rawWrite_same s a v ?_⟩
  · rw [rawRead_sram s a ram, Cart.readRam, s.cart.ramIndex_none _ h]
  · rw [rawWrite_sram s a v ram, Cart.writeRam, s.cart.ramIndex_none _ h]

/-- Settles O43, register by register and range by range. -/
theorem registersReadBack : Obligations.RegistersReadBack := by
  unfold Obligations.RegistersReadBack
  constructor
  · intro s v idle
    exact ⟨storageRegister_readBack s v idle, div_readBack s v idle, ly_ignores s v, stat_readBack s v idle⟩
  · intro s a v
    refine ⟨?_, rom_ignores s a v, fun none low high => cartRam_ignores s a v none ⟨low, high⟩⟩
    rintro (prohibited | unused)
    · exact prohibited_ignores s a v (by omega)
    · exact unusedIo_ignores s a v (by omega) (by unfold unusedIo; omega)

end Sys2Proof.Machine
end

section
/-! PROOFS. The APU's registers read back through their masks (O44). -/

namespace Sys2Proof.Machine

open Sys2Proof.Claims

/-! ### What a write does, by the register's place (R85, R794) -/

theorem Apu.write_powered (a : Apu) (r : Nat) (v : Byte) (low : r < 0x30) (other : r ≠ 0x26) (on : a.power = true) :
    a.write r v = a.writePowered r v := by
  rw [Apu.write, if_neg (by omega), if_neg other, if_pos on]

theorem Apu.write_unpowered (a : Apu) (r : Nat) (v : Byte) (low : r < 0x30) (other : r ≠ 0x26) (off : a.power = false) :
    a.write r v = a := by
  rw [Apu.write, if_neg (by omega), if_neg other, off]
  rfl

theorem Apu.write_wave (a : Apu) (r : Nat) (v : Byte) (wave : 0x30 ≤ r) :
    a.write r v = { a with ch3 := { a.ch3 with ram := a.ch3.ram.write (r - 0x30) v } } := by
  rw [Apu.write, if_pos wave]

theorem Apu.read_wave (a : Apu) (r : Nat) (wave : 0x30 ≤ r) : a.read r = a.ch3.ram.read (r - 0x30) := by
  unfold Apu.read
  split
  case h_22 => exact if_pos wave
  all_goals exact absurd wave (by decide)

theorem Apu.write_nr52_off (a : Apu) (v : Byte) (off : v.getLsbD 7 = false) :
    a.write 0x26 v = { a.allOff with power := false } := by
  show a.writeNr52 v = _
  rw [Apu.writeNr52, off]
  rfl

theorem Apu.write_nr52_on (a : Apu) (v : Byte) (on : v.getLsbD 7 = true) (off : a.power = false) :
    a.write 0x26 v = { a with power := true, fsStep := 0 } := by
  show a.writeNr52 v = _
  rw [Apu.writeNr52, if_pos on, off]
  rfl

theorem apuMasks_low : ∀ x ∈ apuMasks, x.1 < 0x30 ∧ x.1 ≠ 0x26 := by decide

/-! ### The masks (R86) -/

/-- The trigger bit, which a write to NRx4 does not store, is under the read mask. -/
theorem storeNr4_masked (v : Byte) : storeNr4 v ||| 0xBF = v ||| 0xBF := by
  revert v
  decide

/-- With or without the trigger, NRx4 stores what `storeNr4` keeps of the write. -/
theorem Apu.writePowered_nr4 (a : Apu) (v : Byte) :
    (a.writePowered 0x14 v).ch1.nr4 = storeNr4 v ∧ (a.writePowered 0x19 v).ch2.nr4 = storeNr4 v ∧
    (a.writePowered 0x1E v).ch3.nr34 = storeNr4 v ∧ (a.writePowered 0x23 v).ch4.nr44 = storeNr4 v := by
  simp only [Apu.writePowered]
  split <;> exact ⟨rfl, rfl, rfl, rfl⟩

theorem Apu.writePowered_readBack (a : Apu) (v : Byte) (x : Nat × Byte) (mem : x ∈ apuMasks) :
    (a.writePowered x.1 v).read x.1 = v ||| x.2 := by
  have masked : ∀ b : Byte, b = storeNr4 v → b ||| 0xBF = v ||| 0xBF := fun b e => e ▸ storeNr4_masked v
  obtain ⟨nr14, nr24, nr34, nr44⟩ := a.writePowered_nr4 v
  simp only [apuMasks, List.cons_append, List.nil_append, List.mem_cons, List.not_mem_nil, or_false] at mem
  rcases mem with rfl | rfl | rfl | rfl | rfl | rfl | rfl | rfl | rfl | rfl | rfl | rfl | rfl | rfl | rfl | rfl | rfl |
    rfl | rfl | rfl <;>
    [rfl; rfl; rfl; rfl; exact masked _ nr14; rfl; rfl; rfl; exact masked _ nr24; rfl; rfl; rfl; rfl;
      exact masked _ nr34; rfl; rfl; rfl; exact masked _ nr44; rfl; rfl]

/-- NR52 with the power and every channel off reads its ones. -/
theorem Apu.readNr52_off (a : Apu) : Apu.readNr52 { a.allOff with power := false } = 0x70 := by
  show bitAt false 7 ||| 0x70 ||| bitAt false 3 ||| bitAt false 2 ||| bitAt false 1 ||| bitAt false 0 = 0x70
  decide

/-- Turning the power off keeps what the registers read (R794). -/
theorem Apu.read_off (a : Apu) (x : Nat × Byte) (mem : x ∈ apuMasks) :
    Apu.read { a.allOff with power := false } x.1 = a.read x.1 := by
  simp only [apuMasks, List.cons_append, List.nil_append, List.mem_cons, List.not_mem_nil, or_false] at mem
  rcases mem with rfl | rfl | rfl | rfl | rfl | rfl | rfl | rfl | rfl | rfl | rfl | rfl | rfl | rfl | rfl | rfl | rfl |
    rfl | rfl | rfl <;> rfl

/-- Settles O44: by the power, the masks and NR52's bit 7. -/
theorem apuRegistersReadBack : Obligations.ApuRegistersReadBack := by
  unfold Obligations.ApuRegistersReadBack
  intro a v
  refine ⟨fun x mem on => ?_, fun x mem off => ?_, fun r wave _ wf => ?_, fun off => ?_, a.write_nr52_on v⟩
  · obtain ⟨low, other⟩ := apuMasks_low x mem
    rw [a.write_powered x.1 v low other on, a.writePowered_readBack v x mem]
  · obtain ⟨low, other⟩ := apuMasks_low x mem
    exact a.write_unpowered x.1 v low other off
  · rw [a.write_wave r v wave, Apu.read_wave _ r wave]
    exact Memory.read_write_same _ _ v wf
  · rw [a.write_nr52_off v off]
    exact ⟨rfl, a.readNr52_off, a.read_off⟩

end Sys2Proof.Machine
end

section
/-! PROOFS. The reset state (O35, O39): its forms and register values are read off it by evaluation, but for the frame
buffer, whose 144 rows of 160 are counted by the length of a replicated list. -/

namespace Sys2Proof.Machine

theorem frameReset_size :
    Frame.reset.length = 144 ∧ (Frame.reset.all fun row => decide (row.length = 160)) = true := by
  refine ⟨List.length_replicate, List.all_eq_true.mpr fun row mem => ?_⟩
  rw [List.eq_of_mem_replicate mem]
  exact decide_eq_true List.length_replicate

theorem reset_ppuForm : State.reset.ppu.Form :=
  ⟨by decide, by decide, by decide, by decide, by decide, fun _ => rfl, nofun, frameReset_size⟩

/-- Settles O35: the forms one by one; boot skip from a zero image computes the reset state. -/
theorem resetHasEveryForm : Obligations.ResetHasEveryForm := by
  unfold Obligations.ResetHasEveryForm
  have memForm : State.reset.MemForm := by decide
  have apuForm : State.reset.apu.Form := by decide
  have driverForm : State.reset.DriverForm := by decide
  exact ⟨rfl, memForm, reset_ppuForm, apuForm, driverForm, rfl⟩

/-- Settles O39: each value is read off the reset state. -/
theorem resetValues : Obligations.ResetValues := by
  unfold Obligations.ResetValues
  refine ⟨rfl, ?_, ?_, ?_, ?_, ?_, ?_, rfl, rfl, rfl, rfl, rfl, rfl, rfl, rfl, rfl⟩
  all_goals decide

end Sys2Proof.Machine
end

section
/-! PROOFS. The frame of every instruction (O26, O27): what one store leaves alone, a run of stores to such addresses and
the instruction that makes them do too. -/

namespace Sys2Proof.Machine

open Sys2Proof.Claims

/-! ### From one store to an instruction -/

/-- What a store to any address of a kind leaves alone, stores to addresses of that kind do. -/
theorem stores_leave {α : Type} (f : State → α) (ok : Word → Prop)
    (one : ∀ s a v, ok a → f (busWrite s a v) = f s) (ws : List (Word × Byte)) (s : State)
    (h : ∀ a ∈ ws.map Prod.fst, ok a) : f (stores ws s) = f s := by
  induction ws generalizing s with
  | nil => rfl
  | cons w ws ih =>
    rw [List.map_cons, List.forall_mem_cons] at h
    rw [stores_cons, ih _ h.2, one s w.1 w.2 h.1]

/-- What is read past the CPU and its cycle count, and is left alone by a store to any address of a kind, is left alone by
an instruction whose footprint is of that kind. -/
theorem exec_leaves {α : Type} (f : State → α) (ok : Word → Prop) {i : Instr} {s t : State} (e : exec i s = .next t)
    (cpu : ∀ u c n, f { u with cpu := c, opCycles := n } = f u)
    (one : ∀ u a v, ok a → f (busWrite u a v) = f u) (h : ∀ a ∈ storedAt i s, ok a) : f t = f s := by
  obtain ⟨ws, c, n, at_, e'⟩ := exec_effect i s
  obtain rfl := Host.Outcome.next.inj (e'.symm.trans e)
  rw [cpu, stores_leave f ok one ws s (at_ ▸ h)]

/-- The same for the addresses outside a range. -/
theorem exec_leaves_outside {α : Type} (f : State → α) {lo hi : Nat} {i : Instr} {s t : State} (e : exec i s = .next t)
    (cpu : ∀ u c n, f { u with cpu := c, opCycles := n } = f u)
    (one : ∀ u a v, ¬(lo ≤ a.toNat ∧ a.toNat ≤ hi) → f (busWrite u a v) = f u) (h : NoneIn (storedAt i s) lo hi) :
    f t = f s :=
  exec_leaves f _ e cpu one h

/-- What no store changes, no instruction does. -/
theorem exec_leaves_always {α : Type} (f : State → α) {i : Instr} {s t : State} (e : exec i s = .next t)
    (cpu : ∀ u c n, f { u with cpu := c, opCycles := n } = f u) (one : ∀ u a v, f (busWrite u a v) = f u) : f t = f s :=
  exec_leaves f (fun _ => True) e cpu (fun u a v _ => one u a v) fun _ _ => trivial

/-- No read looks at the CPU or its cycle count. -/
theorem rawRead_withCpuCycles (b : Word) (s : State) (c : Cpu) (n : Nat) :
    rawRead { s with cpu := c, opCycles := n } b = rawRead s b := by
  have io : ∀ r, ioRead { s with cpu := c, opCycles := n } r = ioRead s r := fun r => by
    unfold ioRead
    split <;> rfl
  simp only [rawRead, romRead, io]

/-! ### What one store leaves alone, beside the laws of the bus -/

/-- Registers 0x30 to 0x3F are the APU's wave RAM (R85). -/
theorem ioWrite_wave (s : State) (r : Nat) (v : Byte) (wave : 0x30 ≤ r ∧ r ≤ 0x3F) :
    ioWrite s r v = { s with apu := s.apu.write r v } := by
  unfold ioWrite
  split
  case h_21 => exact if_pos (by omega)
  all_goals exact absurd wave (by decide)

/-- A store elsewhere leaves a byte of wave RAM alone (R85). -/
theorem busWrite_waveByte (s : State) (a : Word) (v : Byte) (j : Nat) (h : a.toNat ≠ 0xFF30 + j) :
    (busWrite s a v).apu.ch3.ram.read j = s.apu.ch3.ram.read j := by
  by_cases wave : 0xFF30 ≤ a.toNat ∧ a.toNat ≤ 0xFF3F
  · rcases busWrite_cases s a v with e | e
    · rw [e]
    · rw [e, rawWrite_io s a v (by omega), ioWrite_wave s _ v (by omega), Apu.write_wave _ _ _ (by omega)]
      exact Memory.read_write_ne _ _ _ _ (by omega)
  · obtain ⟨-, -, -, -, -, -, -, -, -, -, -, wave'⟩ := busWrite_devices s a v
    rw [wave' wave]

/-- What ROM addresses read depends on the cartridge's images and banks and on the boot ROM. -/
theorem rawRead_rom_congr {s t : State} {b : Word} (rom : b.toNat < 0x8000) (image : t.cart.rom = s.cart.rom)
    (banks : t.cart.romBanks = s.cart.romBanks) (mbc : t.cart.mbc = s.cart.mbc) (boot : t.boot = s.boot) :
    rawRead t b = rawRead s b := by
  simp only [rawRead_rom _ b rom, romRead, Cart.readRom, Cart.romIndex, Cart.romOffset, image, banks, mbc, boot]

/-- A store to neither an MBC register nor 0xFF50 leaves what ROM addresses read. -/
theorem busWrite_romRead (s : State) (a : Word) (v : Byte) (b : Word) (rom : b.toNat < 0x8000)
    (mbc : ¬a.toNat ≤ 0x7FFF) (boot : a.toNat ≠ 0xFF50) : rawRead (busWrite s a v) b = rawRead s b := by
  obtain ⟨image, banks, -⟩ := busWrite_images s a v
  obtain ⟨-, -, -, -, -, -, boot', -, -, mbc', -⟩ := busWrite_devices s a v
  exact rawRead_rom_congr rom image banks (mbc' mbc) (boot' boot)

/-! ### The footprints: at most two addresses, and two are neighbours -/

theorem storedAt_cases (i : Instr) (s : State) :
    storedAt i s = [] ∨ (∃ a, storedAt i s = [a]) ∨ (∃ a, storedAt i s = [a, a + 1]) ∨
      storedAt i s = [s.cpu.sp - 1, s.cpu.sp - 2] := by
  cases i
  case ldAtA16Sp a => exact .inr (.inr (.inl ⟨a, rfl⟩))
  case pushBc | pushDe | pushHl | pushAf | callA16 | rst00 | rst08 | rst10 | rst18 | rst20 | rst28 | rst30 | rst38 =>
    exact .inr (.inr (.inr rfl))
  case callNzA16 | callZA16 | callNcA16 | callCA16 =>
    exact (ite_eq_or_eq _ _ _).elim (fun e => .inr (.inr (.inr e))) .inl
  case prefixCb => exact (ite_eq_or_eq _ _ _).elim (fun e => .inr (.inl ⟨_, e⟩)) .inl
  case ldAtBcA | ldAtDeA | ldAtHliA | ldAtHldA | ldhAtA8A | ldAtCA | ldAtA16A | incAtHl | decAtHl | ldAtHlD8 | ldAtHlB |
    ldAtHlC | ldAtHlD | ldAtHlE | ldAtHlH | ldAtHlL | ldAtHlA | rlcAtHl | rrcAtHl | rlAtHl | rrAtHl | slaAtHl | sraAtHl |
    swapAtHl | srlAtHl | res0AtHl | res1AtHl | res2AtHl | res3AtHl | res4AtHl | res5AtHl | res6AtHl | res7AtHl |
    set0AtHl | set1AtHl | set2AtHl | set3AtHl | set4AtHl | set5AtHl | set6AtHl | set7AtHl =>
    exact .inr (.inl ⟨_, rfl⟩)
  all_goals exact .inl rfl

theorem storedAt_length_le (i : Instr) (s : State) : (storedAt i s).length ≤ 2 := by
  rcases storedAt_cases i s with e | ⟨a, e⟩ | ⟨a, e⟩ | e <;> simp [e]

/-- An instruction whose first store reaches an MBC register has no second store to cartridge RAM. -/
theorem storedAt_pair_apart {i : Instr} {s : State} {a b : Word} (h : storedAt i s = [a, b]) (rom : a.toNat < 0x8000) :
    ¬(0xA000 ≤ b.toNat ∧ b.toNat < 0xC000) := by
  rcases storedAt_cases i s with e | ⟨c, e⟩ | ⟨c, e⟩ | e <;> rw [h] at e <;> cases e
  · bv_omega
  · bv_omega

/-- Two stores leave every cell alone that the banks at the start select for neither, where the first moves no bank or the
second is not to cartridge RAM. -/
theorem stores_pair_cartRam (s : State) (w x : Word × Byte) (j : Nat)
    (apart : w.1.toNat < 0x8000 → ¬(0xA000 ≤ x.1.toNat ∧ x.1.toNat < 0xC000))
    (h : ∀ a ∈ [w.1, x.1], 0xA000 ≤ a.toNat → a.toNat < 0xC000 → s.cart.ramIndex a.toNat ≠ some j) :
    (stores [w, x] s).cart.ram.read j = s.cart.ram.read j := by
  rw [stores_cons, stores_cons, stores_nil, busWrite_cartRam _ _ _ j, busWrite_cartRam s _ _ j (h _ (by simp))]
  intro low high
  rw [busWrite_ramIndex s _ _ _ fun rom => apart rom ⟨low, high⟩]
  exact h _ (by simp) low high

/-- The cells of cartridge RAM are named by the banks the instruction starts with: no footprint moves them before it
reaches RAM. -/
theorem exec_cartRam {i : Instr} {s t : State} (e : exec i s = .next t) (j : Nat)
    (h : ∀ a ∈ storedAt i s, 0xA000 ≤ a.toNat → a.toNat < 0xC000 → s.cart.ramIndex a.toNat ≠ some j) :
    t.cart.ram.read j = s.cart.ram.read j := by
  obtain ⟨ws, c, n, at_, e'⟩ := exec_effect i s
  obtain rfl := Host.Outcome.next.inj (e'.symm.trans e)
  show (stores ws s).cart.ram.read j = _
  rw [← at_] at h
  rcases ws with _ | ⟨w, _ | ⟨x, _ | ⟨y, ws⟩⟩⟩
  · rfl
  · exact busWrite_cartRam s _ _ j (h _ (by simp))
  · exact stores_pair_cartRam s w x j (storedAt_pair_apart at_.symm) h
  · have two := storedAt_length_le i s
    rw [← at_] at two
    simp at two

/-! ### The two frames -/

/-- Settles O26: each part is what one store leaves alone, carried to the instruction. -/
theorem memoryFrame : Obligations.MemoryFrame := by
  unfold Obligations.MemoryFrame
  intro i s t e
  refine ⟨fun b plain h => ?_, fun j => exec_cartRam e j, fun j _ h => ?_, ?_, ?_, fun mbc boot b rom => ?_⟩
  · exact exec_leaves (rawRead · b) _ e (rawRead_withCpuCycles b) (fun u a v => busWrite_plain u a v b plain) h
  · exact exec_leaves (·.apu.ch3.ram.read j) _ e (fun _ _ _ => rfl) (fun u a v => busWrite_waveByte u a v j) h
  · exact exec_leaves_always (·.cart.rom) e (fun _ _ _ => rfl) fun u a v => (busWrite_images u a v).1
  · exact exec_leaves_always (·.boot.rom) e (fun _ _ _ => rfl) busWrite_bootRom
  · refine exec_leaves (rawRead · b) _ e (rawRead_withCpuCycles b)
      (fun u a v (ok : ¬a.toNat ≤ 0x7FFF ∧ a.toNat ≠ 0xFF50) => busWrite_romRead u a v b rom ok.1 ok.2) fun a mem => ?_
    have := mbc a mem
    have := boot a mem
    omega

/-- Settles O27: each device is read off the law of one store, carried to the instruction. -/
theorem deviceFrame : Obligations.DeviceFrame := by
  unfold Obligations.DeviceFrame
  intro i s t e
  refine ⟨exec_leaves_outside (·.joypad) e (fun _ _ _ => rfl) ?_, exec_leaves_outside (·.serial) e (fun _ _ _ => rfl) ?_,
    exec_leaves_outside (·.timer) e (fun _ _ _ => rfl) ?_, exec_leaves_outside (·.apu) e (fun _ _ _ => rfl) ?_,
    fun low high => exec_leaves (·.ppu) _ e (fun _ _ _ => rfl) ?_ fun a mem => And.intro (low a mem) (high a mem),
    exec_leaves_outside (·.dma) e (fun _ _ _ => rfl) ?_, exec_leaves_outside (·.boot) e (fun _ _ _ => rfl) ?_,
    fun low high => exec_leaves (·.intr.iflag) _ e (fun _ _ _ => rfl) ?_ fun a mem => And.intro (low a mem) (high a mem),
    exec_leaves_outside (·.intr.ie) e (fun _ _ _ => rfl) ?_, exec_leaves_outside (·.cart.mbc) e (fun _ _ _ => rfl) ?_,
    exec_leaves_outside (·.cart.dirty) e (fun _ _ _ => rfl) ?_,
    exec_leaves_always (·.params) e (fun _ _ _ => rfl) busWrite_params,
    exec_leaves_always (·.host) e (fun _ _ _ => rfl) busWrite_host,
    exec_leaves_always (·.masterCycles) e (fun _ _ _ => rfl) busWrite_masterCycles⟩
  all_goals
    intro u a v apart
    obtain ⟨joypad, serial, timer, apu, ppu, dma, boot, iflag, ie, mbc, dirty, -⟩ := busWrite_devices u a v
    grind

end Sys2Proof.Machine
end

section
/-! PROOFS. The bank logic (O45, O46): the windows and the RAM once for every MBC, then each MBC's registers range by
range. -/

namespace Sys2Proof.Machine

open Sys2Proof.Claims

/-! ### The bits of a written byte -/

theorem ramEnableValue_eq (v : Byte) : ramEnableValue v = decide (nibble v = 0xA) := by
  revert v
  decide

/-- MBC1's bank1: five bits, 0 becomes 1 (R176). -/
theorem bank1_bits (v : Byte) :
    (if BitVec.ofNat 5 v.toNat = 0 then 1 else BitVec.ofNat 5 v.toNat) = if v.toNat % 32 = 0 then 1 else v.setWidth 5 := by
  revert v
  decide

/-- MBC2's ROM bank: four bits, 0 becomes 1 (R180). -/
theorem mbc2Bank_bits (v : Byte) :
    (if BitVec.ofNat 4 v.toNat = 0 then 1 else BitVec.ofNat 4 v.toNat) = if nibble v = 0 then 1 else v.setWidth 4 := by
  revert v
  decide

/-- MBC5's ROM bank under a write of its low byte (R184). -/
theorem mbc5Bank_low (b : BitVec 9) (v : Byte) :
    BitVec.ofNat 9 (b.toNat / 256 * 256 + v.toNat) = b.extractLsb' 8 1 ++ v := by
  apply BitVec.eq_of_toNat_eq
  rw [BitVec.toNat_append, Nat.shiftLeft_eq, Nat.mul_comm _ (2 ^ 8), ← Nat.two_pow_add_eq_or_of_lt v.isLt,
    BitVec.extractLsb'_toNat, Nat.shiftRight_eq_div_pow, BitVec.toNat_ofNat]
  omega

/-- MBC5's ROM bank under a write of its ninth bit (R184). -/
theorem mbc5Bank_high (b : BitVec 9) (v : Byte) :
    BitVec.ofNat 9 (v.toNat % 2 * 256 + b.toNat % 256) = v.extractLsb' 0 1 ++ b.extractLsb' 0 8 := by
  apply BitVec.eq_of_toNat_eq
  rw [BitVec.toNat_append, Nat.shiftLeft_eq, Nat.mul_comm _ (2 ^ 8),
    ← Nat.two_pow_add_eq_or_of_lt (b.extractLsb' 0 8).isLt, BitVec.extractLsb'_toNat, BitVec.extractLsb'_toNat,
    BitVec.toNat_ofNat, Nat.shiftRight_zero, Nat.shiftRight_zero]
  omega

/-! ### The windows (R173) -/

/-- A banked cartridge's first window. -/
theorem Cart.readRom_low {c : Cart} {m : Mbc} (h : c.mbc = m) (banked : m ≠ .none) (a : Nat) (low : a < 0x4000) :
    c.readRom a = romBankByte c (m.romBankAt false) a := by
  unfold Cart.readRom Cart.romIndex
  split
  · exact absurd (h.symm.trans ‹_›) banked
  · rw [if_pos low, h]
    rfl

/-- A banked cartridge's second window. -/
theorem Cart.readRom_high {c : Cart} {m : Mbc} (h : c.mbc = m) (banked : m ≠ .none) (a : Nat) (high : 0x4000 ≤ a) :
    c.readRom a = romBankByte c (m.romBankAt true) (a - 0x4000) := by
  unfold Cart.readRom Cart.romIndex
  split
  · exact absurd (h.symm.trans ‹_›) banked
  · rw [if_neg (by omega), h]
    rfl

/-- The RAM window onto a cell of a cartridge whose cells are whole bytes. -/
theorem Cart.ram_enabled (c : Cart) (a j : Nat) (v : Byte) (bytes : c.mbc.nibbles = false) (h : c.ramIndex a = some j) :
    c.readRam a = c.ram.read j ∧ c.writeRam a v = { c with ram := c.ram.write j v, dirty := true } := by
  simp [Cart.readRam, Cart.writeRam, Cart.ramByte, h, bytes]

/-- The RAM window onto one of MBC2's nibbles (R182). -/
theorem Cart.ram_enabled_nibble (c : Cart) (a j : Nat) (v : Byte) (nibbles : c.mbc.nibbles = true)
    (h : c.ramIndex a = some j) :
    c.readRam a = 0xF0 ||| c.ram.read j ∧
      c.writeRam a v = { c with ram := c.ram.write j (v &&& 0x0F), dirty := true } := by
  simp [Cart.readRam, Cart.writeRam, Cart.ramByte, h, nibbles]

/-- The RAM window where no cell is selected. -/
theorem Cart.ram_disabled (c : Cart) (a : Nat) (v : Byte) (h : c.ramIndex a = none) :
    c.readRam a = 0xFF ∧ c.writeRam a v = c := by
  simp [Cart.readRam, Cart.writeRam, h]

/-- The RAM window of an MBC with a RAM enable, onto cells of whole bytes (R178, R187). -/
theorem Cart.ram_gated (c : Cart) (a cell : Nat) (v : Byte) (on : Bool) (bytes : c.mbc.nibbles = false)
    (h : c.ramIndex a = if c.hasRam && on then some cell else none) :
    (c.hasRam = true → on = true →
      c.readRam a = c.ram.read cell ∧ c.writeRam a v = { c with ram := c.ram.write cell v, dirty := true }) ∧
    (c.hasRam = false ∨ on = false → c.readRam a = 0xFF ∧ c.writeRam a v = c) := by
  refine ⟨fun ram enabled => c.ram_enabled a cell v bytes ?_, fun off => c.ram_disabled a v ?_⟩
  · rw [h, if_pos (by rw [ram, enabled]; rfl)]
  · rw [h, if_neg]
    rcases off with off | off <;> simp [off]

/-! ### MBC1 (R176 to R178) -/

theorem Cart.writeRom_mbc1 {c : Cart} {r : Mbc1} (h : c.mbc = .mbc1 r) (a : Nat) (v : Byte) :
    c.writeRom a v = { c with mbc := .mbc1 (r.write a v) } := by
  rw [Cart.writeRom, h]

/-- Settles O45, range by range. -/
theorem mbc1Banking : Obligations.Mbc1Banking := by
  unfold Obligations.Mbc1Banking
  intro c r a v h
  rw [Cart.writeRom_mbc1 h, Mbc1.write, ramEnableValue_eq]
  refine ⟨fun enable => ?_, fun low high => ?_, fun low high => ?_, fun low _ => ?_, fun low => ?_, fun high _ => ?_,
    fun _ _ => ?_⟩
  · rw [if_pos enable]
  · rw [if_neg (by omega), if_pos high]
    simp only [bank1_bits]
  · rw [if_neg (by omega), if_neg (by omega), if_pos high, BitVec.ofNat_toNat]
  · rw [if_neg (by omega), if_neg (by omega), if_neg (by omega)]
  · rw [Cart.readRom_low h nofun a low, Nat.mul_comm 32]
    rfl
  · rw [Cart.readRom_high h nofun a high, Nat.mul_comm 32]
    rfl
  · refine c.ram_gated a _ v r.ramEnable (by rw [h]; rfl) ?_
    rw [Cart.ramIndex, h]
    rfl

/-! ### MBC2 (R180 to R182) -/

theorem Cart.writeRom_mbc2 {c : Cart} {r : Mbc2} (h : c.mbc = .mbc2 r) (a : Nat) (v : Byte) :
    c.writeRom a v = { c with mbc := .mbc2 (r.write a v) } := by
  rw [Cart.writeRom, h]

theorem Cart.ramIndex_mbc2 {c : Cart} {r : Mbc2} (h : c.mbc = .mbc2 r) (a : Nat) :
    c.ramIndex a = if r.ramEnable then some (a % 512) else none := by
  rw [Cart.ramIndex, h]

/-! ### MBC5 (R184 to R187) -/

theorem Cart.writeRom_mbc5 {c : Cart} {r : Mbc5} (h : c.mbc = .mbc5 r) (a : Nat) (v : Byte) :
    c.writeRom a v = { c with mbc := .mbc5 (r.write a v) } := by
  rw [Cart.writeRom, h]

/-- Settles O46: MBC2, whose registers address bit 8 selects, then MBC5, each range by range. -/
theorem mbc2AndMbc5Banking : Obligations.Mbc2AndMbc5Banking := by
  unfold Obligations.Mbc2AndMbc5Banking
  refine ⟨fun c r a v h => ?_, fun c r a v h => ?_⟩
  · rw [Cart.writeRom_mbc2 h, Mbc2.write, ramEnableValue_eq, Nat.testBit_eq_decide_div_mod_eq]
    refine ⟨fun low bit => ?_, fun low bit => ?_, fun high _ => ?_, Cart.readRom_low h nofun a,
      fun high _ => Cart.readRom_high h nofun a high, fun _ _ => ⟨fun on => ?_, fun off => ?_⟩⟩
    · rw [if_pos low, if_pos]
      simpa using bit
    · rw [if_pos low, if_neg]
      · simp only [mbc2Bank_bits]
      · simpa using bit
    · rw [if_neg (by omega), ← h]
    · refine c.ram_enabled_nibble a _ v (by rw [h]; rfl) ?_
      rw [Cart.ramIndex_mbc2 h, if_pos on]
    · refine c.ram_disabled a v ?_
      rw [Cart.ramIndex_mbc2 h, off]
      rfl
  · rw [Cart.writeRom_mbc5 h, Mbc5.write, ramEnableValue_eq, mbc5Bank_low, mbc5Bank_high]
    refine ⟨fun enable => ?_, fun low high => ?_, fun low high => ?_, fun low high => ?_, fun low _ => ?_,
      Cart.readRom_low h nofun a, fun high _ => Cart.readRom_high h nofun a high, fun _ _ => ?_⟩
    · rw [if_pos enable]
    · rw [if_neg (by omega), if_pos high]
    · rw [if_neg (by omega), if_neg (by omega), if_pos high]
    · rw [if_neg (by omega), if_neg (by omega), if_neg (by omega), if_pos high, BitVec.ofNat_toNat]
    · rw [if_neg (by omega), if_neg (by omega), if_neg (by omega), if_neg (by omega), ← h]
    · refine c.ram_gated a _ v r.ramEnable (by rw [h]; rfl) ?_
      rw [Cart.ramIndex, h]
      rfl

end Sys2Proof.Machine
end

section
/-! PROOFS. The access locks (O41): which of the three locks an address is under, and what a locked access does. -/

namespace Sys2Proof.Machine

/-! ### A locked and an unlocked access (R13) -/

theorem busRead_locked {s : State} {a : Word} (h : readLocked s a = true) : busRead s a = 0xFF := if_pos h

theorem busWrite_locked {s : State} {a : Word} (h : writeLocked s a = true) (v : Byte) : busWrite s a v = s := if_pos h

theorem busRead_unlocked {s : State} {a : Word} (h : readLocked s a = false) : busRead s a = rawRead s a := by
  rw [busRead, h]
  rfl

theorem busWrite_unlocked {s : State} {a : Word} (h : writeLocked s a = false) (v : Byte) :
    busWrite s a v = rawWrite s a v := by
  rw [busWrite, h]
  rfl

/-! ### The locks, one by one -/

theorem isHram_eq_decide (a : Word) : isHram a = decide (0xFF80 ≤ a.toNat ∧ a.toNat ≤ 0xFFFE) := by
  simp only [isHram, ← Bool.decide_and, Nat.lt_succ_iff]

/-- A DMA locks every read but those of HRAM (R150). -/
theorem readLocked_of_dma {s : State} {a : Word} (active : s.dma.active = true)
    (outside : ¬(0xFF80 ≤ a.toNat ∧ a.toNat ≤ 0xFFFE)) : readLocked s a = true := by
  simp [readLocked, active, isHram_eq_decide, outside]

/-- HRAM is under no read lock. -/
theorem readLocked_hram (s : State) {a : Word} (hram : 0xFF80 ≤ a.toNat ∧ a.toNat ≤ 0xFFFE) : readLocked s a = false := by
  have vram : isVram a = false := by simp [isVram]; omega
  have oam : isOam a = false := by simp [isOam]; omega
  simp [readLocked, isHram_eq_decide, hram, vram, oam]

/-- Mode 3 locks VRAM (R152). -/
theorem locked_vram {s : State} {a : Word} (vram : 0x8000 ≤ a.toNat ∧ a.toNat < 0xA000) (on : s.ppu.lcdOn = true)
    (drawing : s.ppu.mode = .drawing) : readLocked s a = true ∧ writeLocked s a = true := by
  simp [readLocked, writeLocked, isVram, vramLocked, vram, on, drawing]

/-- Modes 2 and 3 and a DMA lock OAM (R153). -/
theorem locked_oam {s : State} {a : Word} (oam : 0xFE00 ≤ a.toNat ∧ a.toNat < 0xFEA0)
    (busy : (s.ppu.lcdOn = true ∧ (s.ppu.mode = .oamScan ∨ s.ppu.mode = .drawing)) ∨ s.dma.active = true) :
    readLocked s a = true ∧ writeLocked s a = true := by
  have locked : oamLocked s = true := by simpa [oamLocked] using busy
  simp [readLocked, writeLocked, isOam, oam, locked]

/-- Under the dropping policy a DMA locks every write but those to HRAM (R151). -/
theorem writeLocked_of_dropping {s : State} {a : Word} (active : s.dma.active = true)
    (dropping : s.params.dmaCpuWrites = .droppedOutsideHram) (outside : ¬(0xFF80 ≤ a.toNat ∧ a.toNat ≤ 0xFFFE)) :
    writeLocked s a = true := by
  simp [writeLocked, active, dropping, isHram_eq_decide, outside]

/-- Under the performing policy only the VRAM and OAM locks drop a write (R151). -/
theorem writeLocked_of_performing {s : State} {a : Word} (performed : s.params.dmaCpuWrites = .performed)
    (vram : ¬(0x8000 ≤ a.toNat ∧ a.toNat < 0xA000 ∧ s.ppu.lcdOn = true ∧ s.ppu.mode = .drawing))
    (oam : ¬(0xFE00 ≤ a.toNat ∧ a.toNat < 0xFEA0)) : writeLocked s a = false := by
  have noVram : (isVram a && vramLocked s) = false := by
    rw [Bool.eq_false_iff]
    intro locked
    simp [isVram, vramLocked] at locked
    tauto
  have noOam : isOam a = false := by simpa [isOam] using oam
  simp [writeLocked, performed, noVram, noOam]

/-- A fetch that reads 0xFF is RST 38h. -/
theorem fetched_of_ff {s : State} (h : busRead s s.cpu.pc = 0xFF) : fetched s = .rst38 := by
  rw [fetched, fetchWindow, h]
  rfl

/-- Settles O41, lock by lock. -/
theorem accessLocks : Obligations.AccessLocks := by
  unfold Obligations.AccessLocks
  refine ⟨fun s a v => ⟨fun active outside => ?_, fun active outside pc => ?_, fun active hram => ?_,
    fun on drawing low high => ?_, fun busy low high => ?_⟩, fun s a v active oam => ⟨fun performed vram => ?_,
    fun dropping outside => ?_⟩⟩
  · exact busRead_locked (readLocked_of_dma active outside)
  · exact fetched_of_ff (pc ▸ busRead_locked (readLocked_of_dma active outside))
  · rw [busRead_unlocked (readLocked_hram s hram), rawRead_hram s a (by omega)]
  · obtain ⟨read, write⟩ := locked_vram ⟨low, high⟩ on drawing
    exact ⟨busRead_locked read, busWrite_locked write v⟩
  · obtain ⟨read, write⟩ := locked_oam ⟨low, high⟩ busy
    exact ⟨busRead_locked read, busWrite_locked write v⟩
  · exact busWrite_unlocked (writeLocked_of_performing performed vram oam) v
  · exact busWrite_locked (writeLocked_of_dropping active dropping outside) v

end Sys2Proof.Machine
end

section
/-! PROOFS. Storage reads back (O42). -/

namespace Sys2Proof.Machine

theorem rawRead_wramCell (s : State) (b : Word) (h : 0xC000 ≤ b.toNat ∧ b.toNat < 0xFE00) :
    rawRead s b = s.wram.read (cellOf b - 0xC000) := by
  rw [rawRead_plain s b (.inr (.inl (by omega))), if_neg (by omega), if_pos (by unfold cellOf; split <;> omega)]

theorem rawWrite_wramCell (s : State) (a : Word) (v : Byte) (h : 0xC000 ≤ a.toNat ∧ a.toNat < 0xFE00) :
    rawWrite s a v = { s with wram := s.wram.write (cellOf a - 0xC000) v } := by
  by_cases echo : 0xE000 ≤ a.toNat
  · rw [rawWrite_echo s a v ⟨echo, h.2⟩, cellOf, if_pos ⟨echo, h.2⟩, Nat.sub_sub]
  · rw [rawWrite_wram s a v (by omega), cellOf, if_neg fun e => echo e.1]

/-- Outside WRAM and its echo two addresses of one cell are one address. -/
theorem eq_of_cellOf_eq {a b : Word} (h : a.toNat < 0xC000 ∨ 0xFE00 ≤ a.toNat) (plain : plainAddress b)
    (same : cellOf a = cellOf b) : b = a := by
  unfold plainAddress at plain
  unfold cellOf at same
  apply BitVec.eq_of_toNat_eq
  split_ifs at same <;> omega

/-- Canonical arrays read back what was stored to a plain address, at every address of its cell. -/
theorem rawRead_rawWrite_cell (s : State) (a b : Word) (v : Byte) (h : s.MemForm) (ha : plainAddress a)
    (hb : plainAddress b) (same : cellOf a = cellOf b) : rawRead (rawWrite s a v) b = v := by
  obtain ⟨⟨vram, -⟩, ⟨wram, -⟩, ⟨oam, -⟩, ⟨hram, -⟩, -⟩ := h
  by_cases work : 0xC000 ≤ a.toNat ∧ a.toNat < 0xFE00
  · have workB : 0xC000 ≤ b.toNat ∧ b.toNat < 0xFE00 := by
      unfold plainAddress at hb
      unfold cellOf at same
      split_ifs at same <;> omega
    rw [rawWrite_wramCell s a v work, rawRead_wramCell _ b workB, same]
    exact Memory.read_write_same _ _ v wram
  · obtain rfl := eq_of_cellOf_eq (by omega) hb same
    have := b.isLt
    unfold plainAddress at ha
    obtain g | g | g | g : (0x8000 ≤ b.toNat ∧ b.toNat < 0xA000) ∨ (0xFE00 ≤ b.toNat ∧ b.toNat < 0xFEA0) ∨
      (0xFF80 ≤ b.toNat ∧ b.toNat < 0xFFFF) ∨ b.toNat = 0xFFFF := by omega
    · rw [rawWrite_vram s b v g, rawRead_vram _ b g]
      exact Memory.read_write_same _ _ v vram
    · rw [rawWrite_oam s b v g, rawRead_oam _ b g]
      exact Memory.read_write_same _ _ v oam
    · rw [rawWrite_hram s b v g, rawRead_hram _ b g]
      exact Memory.read_write_same _ _ v hram
    · rw [rawWrite_ie s b v g, rawRead_ie _ b g]

/-- A store to a plain address moves no lock. -/
theorem busWrite_readLocked (s : State) (a b : Word) (v : Byte) (h : plainAddress a) :
    readLocked (busWrite s a v) b = readLocked s b := by
  have apart : ¬(0xFF40 ≤ a.toNat ∧ a.toNat ≤ 0xFF4B) := by
    unfold plainAddress at h
    omega
  obtain ⟨-, -, -, -, ppu, dma, -⟩ := busWrite_devices s a v
  rw [readLocked, vramLocked, oamLocked, ppu (by omega) (by omega), dma (by omega)]
  rfl

/-- Settles O42, by whether the two addresses name one cell. -/
theorem storageReadsBack : Obligations.StorageReadsBack := by
  unfold Obligations.StorageReadsBack
  intro s a b v form _ write read ha hb
  rw [busRead_unlocked ((busWrite_readLocked s a b v ha).trans read), busRead_unlocked read]
  split
  · rw [busWrite_unlocked write]
    exact rawRead_rawWrite_cell s a b v form ha hb ‹_›
  · exact busWrite_plain s a v b hb ‹_›

end Sys2Proof.Machine
end

section
/-! PROOFS. A whole DMA (O52): the other devices change neither the DMA, OAM nor anything a page below OAM reads from, so
that each M-cycle copies the byte the page held at the start. -/

namespace Sys2Proof.Machine

/-- The devices leave what lies below OAM. -/
theorem DeviceStep.rawRead_below_oam {s t : State} (d : DeviceStep s t) {a : Word} (h : a.toNat < 0xFE00) :
    rawRead t a = rawRead s a := by
  by_cases rom : a.toNat < 0x8000
  · simp only [rawRead_rom _ a rom, romRead, d.cart, d.boot]
  · simp only [rawRead, if_neg rom, if_pos h, d.vram, d.wram, d.cart]

/-- Before its DMA byte an M-cycle runs the timer, which leaves the DMA and OAM. -/
theorem timers_dma_oam (s : State) :
    (timerT (timerT (timerT (timerT s)))).dma = s.dma ∧ (timerT (timerT (timerT (timerT s)))).oam = s.oam := by
  have dma : ∀ u, (timerT u).dma = u.dma := fun u => (timerT_fixed u).1
  have oam : ∀ u, (timerT u).oam = u.oam := fun u => (timerT_fixed u).2.2.2.1
  simp only [dma, oam, and_self]

/-- After its DMA byte an M-cycle runs the PPU and the APU, which leave the DMA and OAM. -/
theorem dots_dma_oam (s : State) :
    (apuM (ppuDot (ppuDot (ppuDot (ppuDot s))))).dma = s.dma ∧
      (apuM (ppuDot (ppuDot (ppuDot (ppuDot s))))).oam = s.oam := by
  have dma : ∀ u, (ppuDot u).dma = u.dma := fun u => (ppuDot_fixed u).2.1
  have oam : ∀ u, (ppuDot u).oam = u.oam := fun u => (ppuDot_fixed u).2.2.2
  obtain ⟨-, dma', -, oam', -⟩ := apuM_fixed (ppuDot (ppuDot (ppuDot (ppuDot s))))
  simp only [dma', oam', dma, oam, and_self]

/-- The address of byte `i` of a DMA's source page. -/
def Dma.sourceAddr (d : Dma) (i : Nat) : Word := BitVec.ofNat 16 (d.source.toNat * 0x100 + i)

/-- One M-cycle of all the devices while a DMA from below OAM is active. -/
theorem mCycle_dma (s : State) (active : s.dma.active = true) (below : (s.dma.sourceAddr s.dma.index).toNat < 0xFE00) :
    (mCycle s).dma = { s.dma with index := s.dma.index + 1, active := decide (s.dma.index + 1 ≠ 160) } ∧
      (mCycle s).oam = s.oam.write s.dma.index (rawRead s (s.dma.sourceAddr s.dma.index)) := by
  have timers := (timerT_device s).trans ((timerT_device _).trans ((timerT_device _).trans (timerT_device _)))
  have bytes := timers.rawRead_below_oam below
  obtain ⟨dma, oam⟩ := timers_dma_oam s
  unfold mCycle
  generalize timerT (timerT (timerT (timerT s))) = u at *
  obtain ⟨dma', oam'⟩ := dots_dma_oam (dmaM u)
  rw [dma', oam', ← bytes, ← oam, ← dma]
  rw [← dma] at active
  rw [dmaM, if_pos active]
  exact ⟨rfl, rfl⟩

/-- What `n` M-cycles of a DMA have done by state `t`, started in state `s`. -/
structure DmaProgress (s t : State) (n : Nat) : Prop where
  device : DeviceStep s t
  dma : t.dma = { s.dma with index := n, active := decide (n ≠ 160) }
  wf : t.oam.wf = true
  copied : ∀ i < n, t.oam.read i = rawRead s (s.dma.sourceAddr i)

/-- Every address of a page below OAM lies below OAM. -/
theorem Dma.sourceAddr_below (d : Dma) (page : d.source.toNat < 0xFE) (i : Nat) (h : i < 160) :
    (d.sourceAddr i).toNat < 0xFE00 := by
  rw [Dma.sourceAddr, BitVec.toNat_ofNat]
  omega

theorem DmaProgress.mCycle {s t : State} {n : Nat} (page : s.dma.source.toNat < 0xFE) (h : n < 160)
    (p : DmaProgress s t n) : DmaProgress s (mCycle t) (n + 1) := by
  have addr : t.dma.sourceAddr t.dma.index = s.dma.sourceAddr n := by simp only [Dma.sourceAddr, p.dma]
  have below := s.dma.sourceAddr_below page n h
  obtain ⟨dma, oam⟩ := mCycle_dma t (by rw [p.dma]; exact decide_eq_true (by omega)) (by rw [addr]; exact below)
  rw [addr, p.device.rawRead_below_oam below, p.dma] at oam
  refine ⟨?_, ?_, ?_, fun i hi => ?_⟩
  · exact p.device.trans (mCycle_device t)
  · simp only [dma, p.dma]
  · rw [oam]
    exact Memory.wf_write _ _ _ p.wf
  · rw [oam]
    by_cases last : i = n
    · rw [last]
      exact Memory.read_write_same _ _ _ p.wf
    · rw [Memory.read_write_ne _ _ _ _ last, p.copied i (by omega)]

/-- `n` M-cycles into a DMA, its first `n` bytes are copied. -/
theorem tick_dmaProgress {s : State} (wf : s.oam.wf = true) (active : s.dma.active = true) (start : s.dma.index = 0)
    (page : s.dma.source.toNat < 0xFE) (n : Nat) (h : n ≤ 160) : DmaProgress s (tick n s) n := by
  induction n with
  | zero =>
    have dma : s.dma = { s.dma with index := 0, active := true } := by rw [← start, ← active]
    exact ⟨.refl s, dma, wf, nofun⟩
  | succ n ih =>
    rw [tick_add]
    exact (ih (by omega)).mCycle page (by omega)

/-- Settles O52: the progress after all 160 M-cycles. -/
theorem dmaCopiesThePage : Obligations.DmaCopiesThePage := by
  unfold Obligations.DmaCopiesThePage
  intro s wf active start page t
  have done : DmaProgress s t 160 := tick_dmaProgress wf active start page 160 (Nat.le_refl _)
  clear_value t
  refine ⟨by simp [done.dma], fun i h => ?_⟩
  rw [done.copied i h, Dma.sourceAddr, Nat.mul_comm]

end Sys2Proof.Machine
end

section
/-! PROOFS. Decoding and encoding (O1, O2, O3): the encoder's table read against the decoder's, one instruction at a
time, and the decoder's tables read against the encoder's, one opcode at a time. -/

namespace Sys2Proof

/-! ### Decoding an encoding -/

/-- The primary table answers `i` on the bytes `bs`, with `x` and `y` for the bytes of the window that `bs` leaves open. -/
def ReadsAs (bs : List Byte) (x y : Byte) (i : Instr) : Prop :=
  match bs with
  | [b0] => decode3 b0 x y = i
  | [b0, b1] => decode3 b0 b1 y = i
  | [b0, b1, b2] => decode3 b0 b1 b2 = i
  | _ => False

/-- The decoder's tables undo the encoder's row by row: a 16-bit operand is put together from its two bytes (R236), every
other operand is its byte. -/
theorem encode_readsAs (i : Instr) (wf : i.wf = true) (x y : Byte) : ReadsAs (encode i) x y i := by
  cases i
  case prefixCb =>
    exact absurd wf Bool.false_ne_true
  case ldBcD16 | ldDeD16 | ldHlD16 | ldSpD16 | ldAtA16Sp | ldAtA16A | ldAAtA16 | jpA16 | jpNzA16 | jpZA16 | jpNcA16 |
    jpCA16 | callA16 | callNzA16 | callZA16 | callNcA16 | callCA16 =>
    exact congrArg _ (mkWord_hiByte_loByte _)
  all_goals exact rfl

/-- What the table answers on the bytes of `i` whatever follows them, the decoder answers on any string they begin. -/
theorem decode_append_of_readsAs {bs : List Byte} {i : Instr} (len : i.length = bs.length)
    (reads : ∀ x y, ReadsAs bs x y i) (rest : List Byte) : decode (bs ++ rest) = .ok (i, rest) := by
  match bs with
  | [] => exact (reads 0 0).elim
  | [b0] => exact decode_one b0 rest i reads len
  | [b0, b1] => exact decode_two b0 b1 rest i (reads 0) len
  | [b0, b1, b2] => exact decode_three b0 b1 b2 rest i (reads 0 0) len
  | _ :: _ :: _ :: _ :: _ => exact (reads 0 0).elim

/-- Settles O1: each row of the encoder's table is read back, whatever bytes follow it. -/
theorem decodeOfEncode : Obligations.DecodeOfEncode := by
  unfold Obligations.DecodeOfEncode
  intro i rest wf
  exact decode_append_of_readsAs rfl (encode_readsAs i wf) rest

/-! ### Encoding what was decoded -/

set_option maxRecDepth 10000 in
/-- The CB table (R241): all 256 rows. -/
theorem decodeCb_wf_encode (o : Byte) : (decodeCb o).wf = true ∧ encode (decodeCb o) = [0xCB, o] := by
  revert o
  decide

/-- The bytes of a row of the primary table (R231): its opcode, then as many operand bytes as the opcode's length asks
for; a 16-bit operand is encoded from the word it was put together to. -/
def rowBytes (b0 b1 b2 : Byte) : List Byte :=
  match (decode3 b0 0 0).length with
  | 1 => [b0]
  | 2 => [b0, b1]
  | _ => [b0, loByte (mkWord b2 b1), hiByte (mkWord b2 b1)]

/-- A row takes its bytes from the window as they stand (R236). -/
theorem rowBytes_begins_window (b0 b1 b2 : Byte) : rowBytes b0 b1 b2 <+: [b0, b1, b2] := by
  unfold rowBytes
  split
  · exact ⟨[b1, b2], rfl⟩
  · exact ⟨[b2], rfl⟩
  · rw [loByte_mkWord, hiByte_mkWord]

/-- The encoder's table undoes the decoder's at every opcode; at 0xCB that is the CB table's. -/
theorem decode3_wf_encode (b0 b1 b2 : Byte) :
    (decode3 b0 b1 b2).wf = true ∧ encode (decode3 b0 b1 b2) = rowBytes b0 b1 b2 := by
  obtain ⟨n, bound, rfl⟩ : ∃ n < 256, BitVec.ofNat 8 n = b0 := ⟨b0.toNat, b0.isLt, by simp⟩
  obtain below | rfl | above := Nat.lt_trichotomy n 0xCB
  · interval_cases n
    all_goals exact ⟨rfl, rfl⟩
  · exact decodeCb_wf_encode b1
  · interval_cases n
    all_goals exact ⟨rfl, rfl⟩

/-- Three bytes are enough for any instruction, so the decoder answers on any string that long. -/
theorem decode_window_append (b0 b1 b2 : Byte) (rest : List Byte) :
    decode (b0 :: b1 :: b2 :: rest) =
      .ok (decode3 b0 b1 b2, (b0 :: b1 :: b2 :: rest).drop (decode3 b0 b1 b2).length) := by
  have bounds := (decode3 b0 b1 b2).length_bounds
  simp only [decode, List.getD_cons_zero, List.getD_cons_succ]
  rw [if_neg (by simp only [List.length_cons]; omega)]

/-- What the primary table answers is encoded as the first bytes of the window. -/
theorem encode_decode3_begins_window (b0 b1 b2 : Byte) : encode (decode3 b0 b1 b2) <+: [b0, b1, b2] := by
  rw [(decode3_wf_encode b0 b1 b2).2]
  exact rowBytes_begins_window b0 b1 b2

/-- Settles O2: the encoding of what the tables answer begins the window, and the window fits every instruction. -/
theorem everyByteStringDecodes : Obligations.EveryByteStringDecodes := by
  unfold Obligations.EveryByteStringDecodes
  refine ⟨fun b0 b1 b2 => ⟨?wf, ?nonempty, ?bytes⟩, fun bs long => ?_, rfl⟩
  case wf => exact (decode3_wf_encode b0 b1 b2).1
  case nonempty => exact (decode3 b0 b1 b2).length_bounds.1
  case bytes => exact List.prefix_iff_eq_take.mp (encode_decode3_begins_window b0 b1 b2)
  match bs, long with
  | b0 :: b1 :: b2 :: rest, _ =>
    have start : encode (decode3 b0 b1 b2) <+: b0 :: b1 :: b2 :: rest :=
      (encode_decode3_begins_window b0 b1 b2).trans (List.prefix_append _ rest)
    exact ⟨_, _, decode_window_append b0 b1 b2 rest, List.prefix_append_drop start⟩

/-- Settles O3: the decoder evaluated on each of the twenty words. -/
theorem wordsOfTheTables : Obligations.WordsOfTheTables := by
  unfold Obligations.WordsOfTheTables
  decide

end Sys2Proof
end

section
/-! PROOFS. The undefined opcodes are the only source of the fatal state (O23): from what each of them answers and from
the completion of all the others. -/

namespace Sys2Proof.Machine

open Sys2Proof.Claims

/-- Settles O23: an undefined opcode raises Fatal (R611), and every other instruction completes and leaves the fatal
state. -/
theorem undefinedOpcodesAreFatal : Obligations.UndefinedOpcodesAreFatal := by
  unfold Obligations.UndefinedOpcodesAreFatal
  refine ⟨fun x mem s => ⟨?_, exec_undefined s x mem⟩, fun i s t defined e => ?_⟩
  · have bytes : ∀ x ∈ undefinedOps, encode x.2 = [x.1] := by decide
    exact bytes x mem
  · obtain ⟨u, e', -, fatal⟩ := exec_completes i s defined
    rw [e'] at e
    cases e
    exact fatal

end Sys2Proof.Machine
end

section
/-! PROOFS. The 8-bit loads (O4, O5, O6): what each shared operation of the family does in the statements' terms, then
each form as one of these operations. -/

namespace Sys2Proof.Machine

open Sys2Proof.Claims

/-! ### Bytes and addresses of the operands -/

theorem hiByte_eq_high (v : Word) : hiByte v = high v := hiByte_eq_extract v

theorem loByte_eq_low (v : Word) : loByte v = low v := loByte_eq_extract v

/-- The high-page address (R236). -/
theorem highPage_eq (n : Byte) : highPage n = 0xFF00 + n.zeroExtend 16 := congrArg (0xFF00 + ·) (zext16_eq n)

/-! ### The shared operations -/

/-- Writing one register at a cost of `n` M-cycles is a load of that register. -/
theorem setReg_loadsReg (dst : Reg) (v : Byte) (n : Nat) (s : State) :
    LoadsReg dst v n s (.next ((s.setReg dst v).spend n)) := by
  refine ⟨_, rfl, ?value, ?others, ?f, ?sp, ?pc, ⟨?ime, ?imePending, ?halt, ?fatal⟩, rfl, rfl⟩
  case value => exact Cpu.reg_setReg_same s.cpu dst v
  case others => exact fun q other => Cpu.reg_setReg_ne s.cpu dst q v (List.ne_of_not_mem_cons other)
  case f => exact Cpu.setReg_f s.cpu dst v
  case sp => exact Cpu.setReg_sp s.cpu dst v
  case pc => exact Cpu.setReg_pc s.cpu dst v
  case ime => exact Cpu.setReg_ime s.cpu dst v
  case imePending => exact Cpu.setReg_imePending s.cpu dst v
  case halt => exact Cpu.setReg_halt s.cpu dst v
  case fatal => exact Cpu.setReg_fatal s.cpu dst v

/-- `A <- MemRead(addr, 1)`, the read in the state before the load. -/
theorem loadA_loadsReg (a : Word) (n : Nat) (s : State) : LoadsReg .a (busRead s a) n s (.next (loadA a n s)) :=
  setReg_loadsReg .a (busRead s a) n s

/-- A bus write at a cost of `n` M-cycles leaves the CPU. -/
theorem busWrite_spend (s : State) (a : Word) (v : Byte) (n : Nat) :
    (busWrite s a v).spend n = { busWrite s a v with cpu := s.cpu, opCycles := n } := by
  rw [← busWrite_cpu s a v]
  rfl

theorem storeA_eq (a : Word) (n : Nat) (s : State) :
    storeA a n s = { busWrite s a s.cpu.a with cpu := s.cpu, opCycles := n } := busWrite_spend s a s.cpu.a n

theorem storeHl_eq (v : Byte) (n : Nat) (s : State) :
    storeHl v n s = { busWrite s (s.pair .hl) v with cpu := s.cpu, opCycles := n } := busWrite_spend s (s.pair .hl) v n

/-- HL moves from `hl` by `delta`, modulo 2^16, one half in each of its registers. -/
theorem stepHl_eq (delta hl : Word) (t : State) :
    stepHl delta hl t = { t with cpu := { t.cpu with h := high (hl + delta), l := low (hl + delta) } } := by
  rw [← hiByte_eq_high, ← loByte_eq_low]
  rfl

/-- A store of A at HL, after which HL moves by `delta` from where the store found it (R316, R317). -/
theorem stepHl_storeA (delta : Word) (s : State) :
    stepHl delta (s.pair .hl) (storeA (s.pair .hl) 2 s) =
      { busWrite s (s.pair .hl) s.cpu.a with
        cpu := { s.cpu with h := high (s.pair .hl + delta), l := low (s.pair .hl + delta) }, opCycles := 2 } := by
  rw [stepHl_eq, storeA_eq]

/-- A load of A at HL, after which HL moves by `delta` from where the load found it (R318, R319). -/
theorem stepHl_loadA (delta : Word) (s : State) :
    stepHl delta (s.pair .hl) (loadA (s.pair .hl) 2 s) =
      { s with
        cpu := { s.cpu with
          a := busRead s (s.pair .hl), h := high (s.pair .hl + delta), l := low (s.pair .hl + delta) }
        opCycles := 2 } :=
  stepHl_eq delta (s.pair .hl) (loadA (s.pair .hl) 2 s)

/-! ### The forms on every register -/

theorem encode_ldRR (dst r : Reg) : encode (ldRR dst r) = [op8 (0x40 + 8 * regCode dst + regCode r)] := by
  cases dst <;> cases r <;> rfl

theorem exec_ldRR (dst r : Reg) (s : State) : exec (ldRR dst r) s = .next (ldRegReg dst r s) := by
  cases dst <;> cases r <;> rfl

theorem encode_ldRN (dst : Reg) (n : Byte) : encode (ldRN dst n) = [op8 (0x06 + 8 * regCode dst), n] := by
  cases dst <;> rfl

theorem exec_ldRN (dst : Reg) (n : Byte) (s : State) : exec (ldRN dst n) s = .next ((s.setReg dst n).spend 2) := by
  cases dst <;> rfl

theorem encode_ldRHl (dst : Reg) : encode (ldRHl dst) = [op8 (0x46 + 8 * regCode dst)] := by
  cases dst <;> rfl

theorem exec_ldRHl (dst : Reg) (s : State) : exec (ldRHl dst) s = .next (loadHl dst s) := by
  cases dst <;> rfl

theorem encode_ldHlR (r : Reg) : encode (ldHlR r) = [op8 (0x70 + regCode r)] := by
  cases r <;> rfl

theorem exec_ldHlR (r : Reg) (s : State) : exec (ldHlR r) s = .next (storeHl (s.reg r) 2 s) := by
  cases r <;> rfl

/-! ### The forms of A that name one instruction, with their addresses as the rules give them -/

theorem exec_ldhAAtA8 (n : Byte) (s : State) :
    exec (.ldhAAtA8 n) s = .next (loadA (0xFF00 + n.zeroExtend 16) 3 s) := by
  rw [← highPage_eq]
  rfl

theorem exec_ldAAtC (s : State) : exec .ldAAtC s = .next (loadA (0xFF00 + s.cpu.c.zeroExtend 16) 2 s) := by
  rw [← highPage_eq]
  rfl

theorem exec_ldhAtA8A (n : Byte) (s : State) :
    exec (.ldhAtA8A n) s = .next (storeA (0xFF00 + n.zeroExtend 16) 3 s) := by
  rw [← highPage_eq]
  rfl

theorem exec_ldAtCA (s : State) : exec .ldAtCA s = .next (storeA (0xFF00 + s.cpu.c.zeroExtend 16) 2 s) := by
  rw [← highPage_eq]
  rfl

/-! ### The obligations -/

/-- Settles O4: every form writes the one register it loads. -/
theorem byteLoads : Obligations.ByteLoads := by
  unfold Obligations.ByteLoads
  refine ⟨fun dst r n s => ⟨encode_ldRR dst r, ?rr, encode_ldRN dst n, ?rn, encode_ldRHl dst, ?rHl⟩,
    fun a n s => ⟨rfl, ?bc, rfl, ?de, ?bytes, ?a16, rfl, ?a8, rfl, ?c⟩⟩
  case rr => rw [exec_ldRR]; exact setReg_loadsReg dst (s.reg r) 1 s
  case rn => rw [exec_ldRN]; exact setReg_loadsReg dst n 2 s
  case rHl => rw [exec_ldRHl]; exact setReg_loadsReg dst (busRead s (s.pair .hl)) 2 s
  case bc => exact loadA_loadsReg (s.pair .bc) 2 s
  case de => exact loadA_loadsReg (s.pair .de) 2 s
  case bytes => rw [← loByte_eq_low, ← hiByte_eq_high]; rfl
  case a16 => exact loadA_loadsReg a 4 s
  case a8 => rw [exec_ldhAAtA8]; exact loadA_loadsReg _ 3 s
  case c => rw [exec_ldAAtC]; exact loadA_loadsReg _ 2 s

/-- Settles O5: every form is one bus write, and a bus write leaves the CPU. -/
theorem byteStores : Obligations.ByteStores := by
  unfold Obligations.ByteStores
  intro r a n s
  refine ⟨encode_ldHlR r, ?hlR, rfl, ?hlD8, rfl, ?bc, rfl, ?de, ?bytes, ?a16, rfl, ?a8, rfl, ?c⟩
  case hlR => rw [exec_ldHlR, storeHl_eq]
  case hlD8 => exact congrArg Host.Outcome.next (storeHl_eq n 3 s)
  case bc => exact congrArg Host.Outcome.next (storeA_eq (s.pair .bc) 2 s)
  case de => exact congrArg Host.Outcome.next (storeA_eq (s.pair .de) 2 s)
  case bytes => rw [← loByte_eq_low, ← hiByte_eq_high]; rfl
  case a16 => exact congrArg Host.Outcome.next (storeA_eq a 4 s)
  case a8 => rw [exec_ldhAtA8A, storeA_eq]
  case c => rw [exec_ldAtCA, storeA_eq]

/-- Settles O6: the access uses the old HL, then HL moves by 1 or by −1, modulo 2^16. -/
theorem hlSteppingLoads : Obligations.HlSteppingLoads := by
  unfold Obligations.HlSteppingLoads
  intro s up down
  have back : down = s.pair .hl + -1 := BitVec.sub_eq_add_neg (s.pair .hl) 1
  rw [back]
  refine ⟨rfl, rfl, rfl, rfl, ?storeUp, ?storeDown, ?loadUp, ?loadDown⟩
  case storeUp => exact congrArg Host.Outcome.next (stepHl_storeA 1 s)
  case storeDown => exact congrArg Host.Outcome.next (stepHl_storeA (-1) s)
  case loadUp => exact congrArg Host.Outcome.next (stepHl_loadA 1 s)
  case loadDown => exact congrArg Host.Outcome.next (stepHl_loadA (-1) s)

end Sys2Proof.Machine
end

section
/-! PROOFS. The 16-bit loads and the stack (O7, O8, O9): what a write of a pair, a store of SP, a push and a pop do in
the statements' terms, then each form as one of these operations. -/

namespace Sys2Proof.Machine

open Sys2Proof.Claims

/-! ### Pairs -/

theorem Cpu.pair_setPair_same (c : Cpu) (p : Pair) (v : Word) : (c.setPair p v).pair p = v := by
  cases p with
  | bc | de | hl => exact mkWord_hiByte_loByte v
  | sp => rfl

theorem Cpu.pair_setPair_ne (c : Cpu) (p q : Pair) (v : Word) (other : q ≠ p) :
    (c.setPair p v).pair q = c.pair q := by
  cases p <;> cases q
  case bc.bc | de.de | hl.hl | sp.sp => exact absurd rfl other
  all_goals rfl

/-- Writing one pair (or SP) and the flags at a cost of `n` M-cycles changes nothing else. -/
theorem setPair_setFlags_setsPair (p : Pair) (v : Word) (f : Flags) (n : Nat) (s : State) :
    SetsPair p v f n s (.next (((s.setPair p v).setFlags f).spend n)) := by
  have pairs (q : Pair) : (((s.setPair p v).setFlags f).spend n).pair q = (s.cpu.setPair p v).pair q := by
    cases q <;> rfl
  refine ⟨_, rfl, ?value, ?others, ?a, rfl, ?pc, ⟨?ime, ?imePending, ?halt, ?fatal⟩, rfl, rfl⟩
  case value => exact (pairs p).trans (Cpu.pair_setPair_same s.cpu p v)
  case others => exact fun q other => (pairs q).trans (Cpu.pair_setPair_ne s.cpu p q v other)
  case a => exact Cpu.setPair_a s.cpu p v
  case pc => exact Cpu.setPair_pc s.cpu p v
  case ime => exact Cpu.setPair_ime s.cpu p v
  case imePending => exact Cpu.setPair_imePending s.cpu p v
  case halt => exact Cpu.setPair_halt s.cpu p v
  case fatal => exact Cpu.setPair_fatal s.cpu p v

/-- A write of a pair alone is one that puts the flags back as they were. -/
theorem setPair_setsPair (p : Pair) (v : Word) (n : Nat) (s : State) :
    SetsPair p v s.cpu.f n s (.next ((s.setPair p v).spend n)) := by
  have flagsKept : (s.setPair p v).setFlags s.cpu.f = s.setPair p v := by
    cases p <;> rfl
  rw [← flagsKept]
  exact setPair_setFlags_setsPair p v s.cpu.f n s

theorem encode_ldPairI (p : Pair) (v : Word) :
    encode (ldPairI p v) = [op8 (0x01 + 16 * pairCode p), low v, high v] := by
  rw [← loByte_eq_low, ← hiByte_eq_high]
  cases p <;> rfl

theorem exec_ldPairI (p : Pair) (v : Word) (s : State) :
    exec (ldPairI p v) s = .next ((s.setPair p v).spend 3) := by
  cases p <;> rfl

theorem storeSp_eq (a : Word) (s : State) :
    storeSp a s =
      { busWrite (busWrite s a (low s.cpu.sp)) (a + 1) (high s.cpu.sp) with cpu := s.cpu, opCycles := 5 } := by
  rw [← loByte_eq_low, ← hiByte_eq_high, storeSp, busWrite_spend, busWrite_cpu]

/-- Settles O7: a pair, or SP, is written whole; LD (a16),SP is two bus writes, and bus writes leave the CPU. -/
theorem wordLoads : Obligations.WordLoads := by
  unfold Obligations.WordLoads
  refine ⟨fun p v s => ⟨encode_ldPairI p v, ?d16, rfl, ?hl⟩, fun a s => ⟨?bytes, ?store⟩⟩
  case d16 => rw [exec_ldPairI]; exact setPair_setsPair p v 3 s
  case hl => exact setPair_setsPair .sp (s.pair .hl) 2 s
  case bytes => rw [← loByte_eq_low, ← hiByte_eq_high]; rfl
  case store => exact congrArg Host.Outcome.next (storeSp_eq a s)

/-! ### The stack -/

/-- A push of two bytes at a cost of `n` M-cycles is the two stores of R14, with SP lowered by 2. -/
theorem push16_mkWord_spend (s : State) (hi lo : Byte) (n : Nat) :
    (push16 s (mkWord hi lo)).spend n =
      { pushed s hi lo with cpu := { s.cpu with sp := s.cpu.sp - 2 }, opCycles := n } := by
  rw [push16_eq, hiByte_mkWord, loByte_mkWord]
  rfl

theorem encode_pushI (p : StackPair) : encode (pushI p) = [op8 (0xC5 + 16 * stackCode p)] := by
  cases p <;> rfl

theorem exec_pushI (p : StackPair) (s : State) : exec (pushI p) s = .next (pushPair p s) := by
  cases p <;> rfl

/-- The flag byte has a low nibble of 0 (R52). -/
theorem Flags.toByte_and_lowNibble (f : Flags) : f.toByte &&& 0x0F = 0 := by
  rw [← Flags.ofByte_toByte f, Flags.toByte_ofByte, BitVec.and_assoc]
  exact BitVec.and_zero

/-- Bits 7 to 4 of the flag byte are Z, N, H and C (R51). -/
theorem Flags.toByte_getLsbD (f : Flags) :
    f.toByte.getLsbD 7 = f.z ∧ f.toByte.getLsbD 6 = f.n ∧ f.toByte.getLsbD 5 = f.h ∧ f.toByte.getLsbD 4 = f.c :=
  Flags.mk.inj (Flags.ofByte_toByte f)

theorem hiByte_popValue (s : State) : hiByte (popValue s) = busRead s (s.cpu.sp + 1) := hiByte_mkWord _ _

theorem loByte_popValue (s : State) : loByte (popValue s) = busRead s s.cpu.sp := loByte_mkWord _ _

/-- Settles O8: a push is two stores of the pair's halves, and a pop splits the popped word into them. -/
theorem pushesAndPops : Obligations.PushesAndPops := by
  unfold Obligations.PushesAndPops
  refine ⟨fun p s => ⟨encode_pushI p, ?push, s.cpu.f.toByte_and_lowNibble, s.cpu.f.toByte_getLsbD⟩, ?pops⟩
  case push =>
    rw [exec_pushI, pushPair]
    cases p with
    | bc | de | hl | af => exact congrArg Host.Outcome.next (push16_mkWord_spend s _ _ 4)
  case pops =>
    intro s lo hi after
    have hiPopped : hi = hiByte (popValue s) := (hiByte_popValue s).symm
    have loPopped : lo = loByte (popValue s) := (loByte_popValue s).symm
    rw [hiPopped, loPopped]
    exact ⟨rfl, rfl, rfl, rfl, rfl, rfl, rfl, rfl⟩

/-! ### SP plus a displacement -/

theorem low_toNat (v : Word) : (low v).toNat = v.toNat % 256 := by
  rw [← loByte_eq_low, loByte_toNat]

theorem nibble_eq_mod (v : Byte) : nibble v = v.toNat % 16 := by
  rw [nibble, BitVec.toNat_and]
  exact Nat.and_two_pow_sub_one_eq_mod v.toNat 4

/-- The flags of `SP + e8` are the carries of the sum of SP's low byte and the unsigned displacement (R359, R453). -/
theorem addSpFlags_eq (sp : Word) (e : Byte) :
    addSpFlags sp e =
      { z := false, n := false
        h := decide (0xF < nibble (low sp) + nibble e)
        c := decide (0xFF < (low sp).toNat + e.toNat) } := by
  rw [nibble_eq_mod, nibble_eq_mod, low_toNat, Nat.mod_mod_of_dvd _ (by decide)]
  rfl

/-- Settles O9: both forms write one pair, HL or SP, with the sum and the flags they share. -/
theorem stackPointerDisplacements : Obligations.StackPointerDisplacements := by
  unfold Obligations.StackPointerDisplacements
  intro e s f
  have flags : f = addSpFlags s.cpu.sp e := (addSpFlags_eq s.cpu.sp e).symm
  rw [flags, ← sext16_eq]
  refine ⟨rfl, ?ldHl, rfl, ?addSp⟩
  case ldHl => exact setPair_setFlags_setsPair .hl (s.cpu.sp + sext16 e) (addSpFlags s.cpu.sp e) 3 s
  case addSp => exact setPair_setFlags_setsPair .sp (s.cpu.sp + sext16 e) (addSpFlags s.cpu.sp e) 4 s

end Sys2Proof.Machine
end

section
/-! PROOFS. The 8-bit arithmetic and logic (O10, O11, O12, O13): each result in the statements' terms, then each form as
one of the family's shared operations, which write one register and the flags. -/

namespace Sys2Proof.Machine

open Sys2Proof.Claims

/-! ### The shared operations -/

/-- Writing one register and the flags at a cost of `n` M-cycles changes nothing else. -/
theorem setReg_setFlags_setsReg (dst : Reg) (v : Byte) (f : Flags) (n : Nat) (s : State) :
    SetsReg dst v f n s (.next (((s.setReg dst v).setFlags f).spend n)) := by
  have regs (q : Reg) : (((s.setReg dst v).setFlags f).spend n).reg q = (s.cpu.setReg dst v).reg q := by
    cases q <;> rfl
  refine ⟨_, rfl, ?value, ?others, rfl, ?sp, ?pc, ⟨?ime, ?imePending, ?halt, ?fatal⟩, rfl, rfl⟩
  case value => exact (regs dst).trans (Cpu.reg_setReg_same s.cpu dst v)
  case others => exact fun q other => (regs q).trans (Cpu.reg_setReg_ne s.cpu dst q v (List.ne_of_not_mem_cons other))
  case sp => exact Cpu.setReg_sp s.cpu dst v
  case pc => exact Cpu.setReg_pc s.cpu dst v
  case ime => exact Cpu.setReg_ime s.cpu dst v
  case imePending => exact Cpu.setReg_imePending s.cpu dst v
  case halt => exact Cpu.setReg_halt s.cpu dst v
  case fatal => exact Cpu.setReg_fatal s.cpu dst v

/-- A bus write and then the flags, at a cost of `n` M-cycles, leave the rest of the CPU. -/
theorem busWrite_setFlags_spend (s : State) (a : Word) (v : Byte) (f : Flags) (n : Nat) :
    ((busWrite s a v).setFlags f).spend n = { busWrite s a v with cpu := { s.cpu with f := f }, opCycles := n } := by
  rw [← busWrite_cpu s a v]
  rfl

/-- Writing an operand back and then the flags is one register write or one bus write. -/
theorem writeR8_setFlags_writesBack (cycles : R8 → Nat) (regCycles : Nat)
    (reg : ∀ r, cycles (.reg r) = regCycles) (o : R8) (v : Byte) (f : Flags) (s : State) :
    WritesBack o v f regCycles (cycles .atHl) s (.next (((writeR8 s o v).setFlags f).spend (cycles o))) := by
  cases o with
  | reg r => rw [reg]; exact setReg_setFlags_setsReg r v f regCycles s
  | atHl => exact congrArg Host.Outcome.next (busWrite_setFlags_spend s (s.pair .hl) v f (cycles .atHl))

/-! ### The two-operand forms (R400) -/

theorem readR8_eq (s : State) (o : R8) : readR8 s o = operandValue s o := by
  cases o <;> rfl

theorem readSrc_eq (s : State) (src : Src) : readSrc s src = sourceValue s src := by
  match src with
  | .r8 (.reg _) | .r8 .atHl | .imm _ => rfl

theorem srcCycles_eq (src : Src) : srcCycles src = sourceCycles src := by
  match src with
  | .r8 (.reg _) | .r8 .atHl | .imm _ => rfl

theorem encode_aluInstr (op : AluOp) (src : Src) : encode (aluInstr op src) = aluBytes op src := by
  match src with
  | .r8 (.reg r) => cases op <;> cases r <;> rfl
  | .r8 .atHl => cases op <;> rfl
  | .imm n => cases op <;> rfl

theorem exec_aluInstr (op : AluOp) (src : Src) (s : State) : exec (aluInstr op src) s = .next (alu op src s) := by
  match src with
  | .r8 (.reg r) => cases op <;> cases r <;> rfl
  | .r8 .atHl => cases op <;> rfl
  | .imm n => cases op <;> rfl

/-- Every two-operand form writes A and the flags, and nothing else, with its operation's result. -/
theorem aluInstr_setsReg (op : AluOp) (src : Src) (s : State) (v : Byte) (f : Flags)
    (result : aluResult op s.cpu.f s.cpu.a (sourceValue s src) = ⟨v, f⟩) :
    SetsReg .a v f (sourceCycles src) s (exec (aluInstr op src) s) := by
  rw [exec_aluInstr, alu, readSrc_eq, result, srcCycles_eq]
  exact setReg_setFlags_setsReg .a v f (sourceCycles src) s

/-! ### The results (R401 to R408) -/

theorem ofNat_carry (f : Flags) : BitVec.ofNat 8 f.carry = carryByte f := by
  unfold Flags.carry carryByte
  split <;> rfl

theorem carryByte_toNat (f : Flags) : (carryByte f).toNat = f.carry := by
  unfold Flags.carry carryByte
  split <;> rfl

theorem addWithCarry_eq (a v : Byte) (c : Nat) :
    addWithCarry a v c =
      ⟨a + v + BitVec.ofNat 8 c,
        ⟨decide (a + v + BitVec.ofNat 8 c = 0), false, decide (0xF < nibble a + nibble v + c),
          decide (0xFF < a.toNat + v.toNat + c)⟩⟩ := by
  rw [← addWithCarry_z, ← addWithCarry_value, nibble_eq_mod, nibble_eq_mod]
  rfl

theorem addWithCarry_zero (a v : Byte) :
    addWithCarry a v 0 =
      ⟨a + v,
        ⟨decide (a + v = 0), false, decide (0xF < nibble a + nibble v), decide (0xFF < a.toNat + v.toNat)⟩⟩ := by
  rw [addWithCarry_eq, BitVec.add_zero]
  rfl

theorem addWithCarry_carry (a v : Byte) (f : Flags) :
    addWithCarry a v f.carry =
      ⟨a + v + carryByte f,
        ⟨decide (a + v + carryByte f = 0), false, decide (0xF < nibble a + nibble v + (carryByte f).toNat),
          decide (0xFF < a.toNat + v.toNat + (carryByte f).toNat)⟩⟩ := by
  rw [addWithCarry_eq, ofNat_carry, carryByte_toNat]

theorem subWithBorrow_eq (a v : Byte) (c : Nat) (bit : c ≤ 1) :
    subWithBorrow a v c =
      ⟨a - v - BitVec.ofNat 8 c,
        ⟨decide (a = v + BitVec.ofNat 8 c), true, decide (nibble a < nibble v + c),
          decide (a.toNat < v.toNat + c)⟩⟩ := by
  rw [← subWithBorrow_z a v c bit, ← subWithBorrow_value, nibble_eq_mod, nibble_eq_mod]
  rfl

theorem subWithBorrow_zero (a v : Byte) :
    subWithBorrow a v 0 =
      ⟨a - v, ⟨decide (a = v), true, decide (nibble a < nibble v), decide (a.toNat < v.toNat)⟩⟩ := by
  rw [subWithBorrow_eq a v 0 (by decide), BitVec.add_zero, BitVec.sub_zero]
  rfl

theorem subWithBorrow_carry (a v : Byte) (f : Flags) :
    subWithBorrow a v f.carry =
      ⟨a - v - carryByte f,
        ⟨decide (a = v + carryByte f), true, decide (nibble a < nibble v + (carryByte f).toNat),
          decide (a.toNat < v.toNat + (carryByte f).toNat)⟩⟩ := by
  rw [subWithBorrow_eq a v f.carry f.carry_le, ofNat_carry, carryByte_toNat]

theorem xorResult_eq (a v : Byte) : xorResult a v = ⟨a ^^^ v, ⟨decide (a = v), false, false, false⟩⟩ := by
  rw [← xorResult_z]
  rfl

theorem orResult_eq (a v : Byte) : orResult a v = ⟨a ||| v, ⟨decide (a = 0 ∧ v = 0), false, false, false⟩⟩ := by
  rw [← orResult_z]
  rfl

/-- Settles O10: ADD is ADC with no carry-in. -/
theorem additions : Obligations.Additions := by
  unfold Obligations.Additions
  intro src s a v c
  refine ⟨encode_aluInstr .add src, encode_aluInstr .adc src, aluInstr_setsReg .add src s _ _ ?add,
    aluInstr_setsReg .adc src s _ _ ?adc⟩
  case add => exact addWithCarry_zero a v
  case adc => exact addWithCarry_carry a v s.cpu.f

/-- Settles O11: SUB is SBC with no borrow-in, and CP is SUB with A put back. -/
theorem subtractions : Obligations.Subtractions := by
  unfold Obligations.Subtractions
  intro src s a v c f
  refine ⟨encode_aluInstr .sub src, encode_aluInstr .sbc src, encode_aluInstr .cp src,
    aluInstr_setsReg .sub src s _ _ ?sub, aluInstr_setsReg .cp src s _ _ ?cp, aluInstr_setsReg .sbc src s _ _ ?sbc⟩
  case sub => exact subWithBorrow_zero a v
  case cp => exact congrArg (fun difference => Alu.mk a difference.flags) (subWithBorrow_zero a v)
  case sbc => exact subWithBorrow_carry a v s.cpu.f

/-- Settles O12: the three operations differ in their result only. -/
theorem logicalOperations : Obligations.LogicalOperations := by
  unfold Obligations.LogicalOperations
  intro src s a v
  refine ⟨encode_aluInstr .and src, encode_aluInstr .xor src, encode_aluInstr .or src,
    aluInstr_setsReg .and src s _ _ ?and, aluInstr_setsReg .xor src s _ _ ?xor, aluInstr_setsReg .or src s _ _ ?or⟩
  case and => rfl
  case xor => exact xorResult_eq a v
  case or => exact orResult_eq a v

/-! ### INC and DEC (R409 to R412) -/

theorem encode_incI (o : R8) : encode (incI o) = [op8 (0x04 + 8 * r8Code o)] := by
  match o with
  | .reg r => cases r <;> rfl
  | .atHl => rfl

theorem encode_decI (o : R8) : encode (decI o) = [op8 (0x05 + 8 * r8Code o)] := by
  match o with
  | .reg r => cases r <;> rfl
  | .atHl => rfl

theorem exec_incI (o : R8) (s : State) : exec (incI o) s = .next (incR8 o s) := by
  match o with
  | .reg r => cases r <;> rfl
  | .atHl => rfl

theorem exec_decI (o : R8) (s : State) : exec (decI o) s = .next (decR8 o s) := by
  match o with
  | .reg r => cases r <;> rfl
  | .atHl => rfl

theorem incResult_eq (f : Flags) (v : Byte) :
    incResult f v = ⟨v + 1, ⟨decide (v = 0xFF), false, decide (nibble v = 0xF), f.c⟩⟩ := by
  rw [← incResult_z f, nibble_eq_mod]
  rfl

theorem decResult_eq (f : Flags) (v : Byte) :
    decResult f v = ⟨v - 1, ⟨decide (v = 0x01), true, decide (nibble v = 0x0), f.c⟩⟩ := by
  rw [← decResult_z f, nibble_eq_mod]
  rfl

/-- Settles O13: both forms write their operand back once, and then the flags. -/
theorem incrementsAndDecrements : Obligations.IncrementsAndDecrements := by
  unfold Obligations.IncrementsAndDecrements
  intro o s v
  refine ⟨encode_incI o, encode_decI o, ?inc, ?dec⟩
  case inc =>
    rw [exec_incI, incR8, readR8_eq, incResult_eq]
    exact writeR8_setFlags_writesBack incCycles 1 (fun _ => rfl) o _ _ s
  case dec =>
    rw [exec_decI, decR8, readR8_eq, decResult_eq]
    exact writeR8_setFlags_writesBack incCycles 1 (fun _ => rfl) o _ _ s

end Sys2Proof.Machine
end

section
/-! PROOFS. DAA after ADD or SUB is decimal arithmetic (O22): two operands of two decimal digits each are added or
subtracted digit by digit, and DAA's correction is 6 in each digit that carried or borrowed. -/

namespace Sys2Proof.Machine

open Sys2Proof.Claims

/-- `v` is the byte of the decimal digits `tens` and `ones`. -/
def HasDigits (v : Byte) (tens ones : Nat) : Prop := tens ≤ 9 ∧ ones ≤ 9 ∧ v.toNat = 16 * tens + ones

theorem exists_hasDigits {v : Byte} (valid : validBcd v) :
    ∃ tens ones, HasDigits v tens ones ∧ bcdValue v = 10 * tens + ones := by
  obtain ⟨ones, tens⟩ := valid
  refine ⟨v.toNat / 16, nibble v, ⟨tens, ones, ?_⟩, congrArg (· + nibble v) (Nat.mul_comm _ 10)⟩
  rw [nibble_eq_mod]
  exact (Nat.div_add_mod v.toNat 16).symm

theorem HasDigits.validBcd_and_bcdValue {v : Byte} {tens ones : Nat} (digits : HasDigits v tens ones) :
    validBcd v ∧ bcdValue v = 10 * tens + ones := by
  obtain ⟨hTens, hOnes, value⟩ := digits
  rw [validBcd, bcdValue, nibble_eq_mod]
  omega

/-! ### ADD, then DAA -/

/-- The ones of a sum want DAA's correction when they pass 9. -/
theorem onesCorrected_add {a b : Byte} {x1 x0 y1 y0 : Nat} (x : HasDigits a x1 x0) (y : HasDigits b y1 y0) :
    (decide (0xF < nibble a + nibble b) || decide (9 < (a + b).toNat % 16)) = decide (9 < x0 + y0) := by
  obtain ⟨-, hx0, ha⟩ := x
  obtain ⟨-, hy0, hb⟩ := y
  rw [← Bool.decide_or, decide_eq_decide, BitVec.toNat_add, nibble_eq_mod, nibble_eq_mod, ha, hb]
  omega

/-- The tens of a sum want DAA's correction when the sum passes 99. -/
theorem tensCorrected_add {a b : Byte} {x1 x0 y1 y0 : Nat} (x : HasDigits a x1 x0) (y : HasDigits b y1 y0) :
    (decide (0xFF < a.toNat + b.toNat) || decide (0x99 < (a + b).toNat)) =
      decide (99 < 10 * x1 + x0 + (10 * y1 + y0)) := by
  obtain ⟨-, hx0, ha⟩ := x
  obtain ⟨-, hy0, hb⟩ := y
  rw [← Bool.decide_or, decide_eq_decide, BitVec.toNat_add, ha, hb]
  omega

/-- DAA after ADD adds digit by digit, each digit with its carry, the decimal carry in C. -/
theorem daaResult_add {a b : Byte} {x1 x0 y1 y0 : Nat} (x : HasDigits a x1 x0) (y : HasDigits b y1 y0) :
    let r := daaResult (addWithCarry a b 0).flags (addWithCarry a b 0).value
    let onesCarry := if 9 < x0 + y0 then 1 else 0
    let carry := if 99 < 10 * x1 + x0 + (10 * y1 + y0) then 1 else 0
    HasDigits r.value (x1 + y1 + onesCarry - 10 * carry) (x0 + y0 - 10 * onesCarry) ∧
    r.flags.c = decide (99 < 10 * x1 + x0 + (10 * y1 + y0)) := by
  rw [addWithCarry_zero]
  refine ⟨?_, tensCorrected_add x y⟩
  simp only [daaResult, daaCorrection, gt_iff_lt, onesCorrected_add x y, tensCorrected_add x y]
  obtain ⟨hx1, hx0, ha⟩ := x
  obtain ⟨hy1, hy0, hb⟩ := y
  simp only [HasDigits, Bool.false_eq_true, if_false, BitVec.toNat_ofNat, BitVec.toNat_add, Nat.mod_add_mod, ha, hb,
    decide_eq_true_eq]
  split_ifs <;> omega

/-! ### SUB, then DAA -/

/-- DAA after SUB subtracts digit by digit, each digit with its borrow, the decimal borrow in C. -/
theorem daaResult_sub {a b : Byte} {x1 x0 y1 y0 : Nat} (x : HasDigits a x1 x0) (y : HasDigits b y1 y0) :
    let r := daaResult (subWithBorrow a b 0).flags (subWithBorrow a b 0).value
    let onesBorrow := if x0 < y0 then 1 else 0
    let borrow := if 10 * x1 + x0 < 10 * y1 + y0 then 1 else 0
    HasDigits r.value (x1 + 10 * borrow - (y1 + onesBorrow)) (x0 + 10 * onesBorrow - y0) ∧
    r.flags.c = decide (10 * x1 + x0 < 10 * y1 + y0) := by
  obtain ⟨hx1, hx0, ha⟩ := x
  obtain ⟨hy1, hy0, hb⟩ := y
  have onesBorrowed : nibble a < nibble b ↔ x0 < y0 := by
    rw [nibble_eq_mod, nibble_eq_mod, ha, hb]
    omega
  have borrowed : a.toNat < b.toNat ↔ 10 * x1 + x0 < 10 * y1 + y0 := by
    rw [ha, hb]
    omega
  rw [subWithBorrow_zero]
  simp only [daaResult, daaCorrection, onesBorrowed, borrowed]
  refine ⟨?_, Bool.or_false _⟩
  simp only [HasDigits, if_true, BitVec.toNat_ofInt, BitVec.toNat_sub, ha, hb, decide_eq_true_eq]
  split_ifs <;> omega

/-- Settles O22: after either operation DAA leaves the digits of the decimal result. -/
theorem decimalAdjustIsDecimal : Obligations.DecimalAdjustIsDecimal := by
  unfold Obligations.DecimalAdjustIsDecimal
  intro s validA validB x y
  obtain ⟨x1, x0, digitsA, (hx : x = 10 * x1 + x0)⟩ := exists_hasDigits validA
  obtain ⟨y1, y0, digitsB, (hy : y = 10 * y1 + y0)⟩ := exists_hasDigits validB
  have ⟨hx1, hx0, _⟩ := digitsA
  have ⟨hy1, hy0, _⟩ := digitsB
  rw [hx, hy]
  refine ⟨⟨_, _, rfl, rfl, ?add⟩, ⟨_, _, rfl, rfl, ?sub⟩⟩
  case add =>
    obtain ⟨digits, carry⟩ := daaResult_add digitsA digitsB
    obtain ⟨valid, value⟩ := digits.validBcd_and_bcdValue
    refine ⟨valid, value.trans ?_, carry⟩
    split_ifs <;> omega
  case sub =>
    obtain ⟨digits, borrow⟩ := daaResult_sub digitsA digitsB
    obtain ⟨valid, value⟩ := digits.validBcd_and_bcdValue
    refine ⟨valid, value.trans ?_, borrow⟩
    split_ifs <;> omega

end Sys2Proof.Machine
end

section
/-! PROOFS. The 16-bit arithmetic (O14): each form as one of the family's three shared operations, which write one pair,
and R450's flags as carries of the masked sums. -/

namespace Sys2Proof.Machine

open Sys2Proof.Claims

/-! ### ADD HL,rr (R450) -/

theorem encode_addHlI (p : Pair) : encode (addHlI p) = [op8 (0x09 + 16 * pairCode p)] := by
  cases p <;> rfl

theorem exec_addHlI (p : Pair) (s : State) : exec (addHlI p) s = .next (addHl p s) := by
  cases p <;> rfl

theorem and_low12_toNat (v : Word) : (v &&& 0xFFF).toNat = v.toNat % 4096 := by
  rw [BitVec.toNat_and]
  exact Nat.and_two_pow_sub_one_eq_mod v.toNat 12

/-- The carry out of bit 11 is the carry of the sum of the low twelve bits. -/
theorem addHlFlags_eq (f : Flags) (hl rr : Word) :
    addHlFlags f hl rr =
      { z := f.z, n := false
        h := decide (0xFFF < (hl &&& 0xFFF).toNat + (rr &&& 0xFFF).toNat)
        c := decide (0xFFFF < hl.toNat + rr.toNat) } := by
  rw [and_low12_toNat, and_low12_toNat]
  rfl

/-! ### INC rr and DEC rr (R451, R452) -/

theorem encode_incPairI (p : Pair) : encode (incPairI p) = [op8 (0x03 + 16 * pairCode p)] := by
  cases p <;> rfl

theorem exec_incPairI (p : Pair) (s : State) : exec (incPairI p) s = .next (incPair p s) := by
  cases p <;> rfl

theorem encode_decPairI (p : Pair) : encode (decPairI p) = [op8 (0x0B + 16 * pairCode p)] := by
  cases p <;> rfl

theorem exec_decPairI (p : Pair) (s : State) : exec (decPairI p) s = .next (decPair p s) := by
  cases p <;> rfl

/-- Settles O14: ADD HL,rr writes HL and the flags, INC rr and DEC rr write their pair alone. -/
theorem pairArithmetic : Obligations.PairArithmetic := by
  unfold Obligations.PairArithmetic
  refine ⟨fun p s => ⟨encode_addHlI p, ?add⟩, fun p s => ⟨encode_incPairI p, ?inc, encode_decPairI p, ?dec⟩⟩
  case add =>
    rw [exec_addHlI, ← addHlFlags_eq]
    exact setPair_setFlags_setsPair .hl (s.pair .hl + s.pair p) (addHlFlags s.cpu.f (s.pair .hl) (s.pair p)) 2 s
  case inc => rw [exec_incPairI]; exact setPair_setsPair p (s.pair p + 1) 2 s
  case dec => rw [exec_decPairI]; exact setPair_setsPair p (s.pair p - 1) 2 s

end Sys2Proof.Machine
end

section
/-! PROOFS. The rotates, shifts and single-bit operations (O15, O16): each row of the CB table as one of the family's four
shared operations, the model's byte arithmetic as the rotates and shifts of R505 to R512, and one write-back. -/

namespace Sys2Proof.Machine

open Sys2Proof.Claims

/-! ### Results and bits shifted out (R505 to R512) -/

theorem rotValue_eq (op : Rot) (f : Flags) (v : Byte) : rotValue op v f.carry = rotated op f v := by
  cases op with
  | rlc => exact rotValue_rlc v f.carry
  | rrc => exact rotValue_rrc v f.carry
  | rl =>
    unfold Flags.carry rotated carryByte
    split
    · exact (rotValue_rl v).2
    · exact (rotValue_rl v).1.trans BitVec.or_zero.symm
  | rr =>
    unfold Flags.carry rotated carryByte
    split
    · exact (rotValue_rr v).2
    · exact (rotValue_rr v).1.trans BitVec.or_zero.symm
  | sla => exact rotValue_sla v f.carry
  | sra => exact rotValue_sra v f.carry
  | swap => exact rotValue_swap v f.carry
  | srl => exact rotValue_srl v f.carry

theorem rotResult_eq (op : Rot) (f : Flags) (v : Byte) :
    rotResult op f v = ⟨rotated op f v, ⟨decide (rotated op f v = 0), false, false, shiftedOut op v⟩⟩ := by
  rw [← rotValue_eq]
  rfl

theorem rotAccResult_eq (op : Rot) (f : Flags) (v : Byte) :
    rotAccResult op f v = ⟨rotated op f v, ⟨false, false, false, shiftedOut op v⟩⟩ := by
  rw [← rotValue_eq]
  rfl

/-! ### The rows of the tables -/

/-- The accumulator rotates are four rows of the primary table (R500 to R503). -/
theorem encode_exec_rotAccI {op : Rot} {i : Instr} (row : rotAccI op = some i) (s : State) :
    encode i = [op8 (0x07 + 8 * rotCode op)] ∧ exec i s = .next (rotAcc op s) := by
  match op, row with
  | .rlc, rfl | .rrc, rfl | .rl, rfl | .rr, rfl => exact ⟨rfl, rfl⟩

/-- Rows 0x00 to 0x3F of the CB table (R505 to R512). -/
theorem encode_exec_rotI (op : Rot) (o : R8) (s : State) :
    encode (rotI op o) = [0xCB, op8 (8 * rotCode op + r8Code o)] ∧ exec (rotI op o) s = .next (cbRot op o s) := by
  match o with
  | .reg r => cases op <;> cases r <;> exact ⟨rfl, rfl⟩
  | .atHl => cases op <;> exact ⟨rfl, rfl⟩

/-- Rows 0x40 to 0x7F of the CB table (R513). -/
theorem encode_exec_bitI (k : Fin 8) (o : R8) (s : State) :
    encode (bitI k o) = [0xCB, op8 (0x40 + 8 * k.val + r8Code o)] ∧ exec (bitI k o) s = .next (cbBit k o s) := by
  match o with
  | .reg r => cases r <;> fin_cases k <;> exact ⟨rfl, rfl⟩
  | .atHl => fin_cases k <;> exact ⟨rfl, rfl⟩

/-- Rows 0x80 to 0xBF of the CB table (R514). -/
theorem encode_exec_resI (k : Fin 8) (o : R8) (s : State) :
    encode (resI k o) = [0xCB, op8 (0x80 + 8 * k.val + r8Code o)] ∧ exec (resI k o) s = .next (cbRes k o s) := by
  match o with
  | .reg r => cases r <;> fin_cases k <;> exact ⟨rfl, rfl⟩
  | .atHl => fin_cases k <;> exact ⟨rfl, rfl⟩

/-- Rows 0xC0 to 0xFF of the CB table (R515). -/
theorem encode_exec_setI (k : Fin 8) (o : R8) (s : State) :
    encode (setI k o) = [0xCB, op8 (0xC0 + 8 * k.val + r8Code o)] ∧ exec (setI k o) s = .next (cbSet k o s) := by
  match o with
  | .reg r => cases r <;> fin_cases k <;> exact ⟨rfl, rfl⟩
  | .atHl => fin_cases k <;> exact ⟨rfl, rfl⟩

/-! ### Rotates and shifts -/

theorem rotAcc_setsReg (op : Rot) (s : State) :
    SetsReg .a (rotated op s.cpu.f s.cpu.a) ⟨false, false, false, shiftedOut op s.cpu.a⟩ 1 s (.next (rotAcc op s)) := by
  rw [rotAcc, rotAccResult_eq]
  exact setReg_setFlags_setsReg .a _ _ 1 s

theorem cbRot_writesBack (op : Rot) (o : R8) (s : State) :
    WritesBack o (rotated op s.cpu.f (operandValue s o))
      ⟨decide (rotated op s.cpu.f (operandValue s o) = 0), false, false, shiftedOut op (operandValue s o)⟩ 2 4 s
      (.next (cbRot op o s)) := by
  rw [cbRot, readR8_eq, rotResult_eq]
  exact writeR8_setFlags_writesBack cbCycles 2 (fun _ => rfl) o _ _ s

/-- Settles O15: an accumulator rotate writes A, a CB rotate or shift its operand, and then the flags. -/
theorem rotatesAndShifts : Obligations.RotatesAndShifts := by
  unfold Obligations.RotatesAndShifts
  refine ⟨fun op i s row => ?accumulator, fun op o s => ?operand⟩
  case accumulator =>
    obtain ⟨bytes, run⟩ := encode_exec_rotAccI row s
    exact ⟨bytes, run ▸ rotAcc_setsReg op s⟩
  case operand =>
    obtain ⟨bytes, run⟩ := encode_exec_rotI op o s
    exact ⟨bytes, run ▸ cbRot_writesBack op o s⟩

/-! ### Single bits (R513 to R515) -/

theorem bitCycles_eq (o : R8) : bitCycles o = if o = .atHl then 3 else 2 := by
  cases o <;> rfl

theorem bitFlags_eq (f : Flags) (k : Nat) (v : Byte) : bitFlags f k v = ⟨v.getLsbD k == false, false, true, f.c⟩ := by
  rw [beq_false]
  rfl

/-- BIT writes the flags and nothing else. -/
theorem cbBit_eq (k : Nat) (o : R8) (s : State) :
    cbBit k o s =
      { s with
        cpu := { s.cpu with f := ⟨(operandValue s o).getLsbD k == false, false, true, s.cpu.f.c⟩ }
        opCycles := if o = .atHl then 3 else 2 } := by
  rw [cbBit, readR8_eq, bitFlags_eq, bitCycles_eq]
  rfl

/-- Writing an operand back at a CB operation's cost leaves the flags. -/
theorem writeR8_spend_writesBack (o : R8) (v : Byte) (s : State) :
    WritesBack o v s.cpu.f 2 4 s (.next ((writeR8 s o v).spend (cbCycles o))) := by
  have same : (writeR8 s o v).setFlags s.cpu.f = writeR8 s o v :=
    congrArg (writeR8 s o v).setFlags (writeR8_control s o v).1.symm
  have written := writeR8_setFlags_writesBack cbCycles 2 (fun _ => rfl) o v s.cpu.f s
  rwa [same] at written

theorem cbRes_writesBack (k : Nat) (o : R8) (s : State) :
    WritesBack o (resValue k (operandValue s o)) s.cpu.f 2 4 s (.next (cbRes k o s)) := by
  rw [cbRes, readR8_eq]
  exact writeR8_spend_writesBack o _ s

theorem cbSet_writesBack (k : Nat) (o : R8) (s : State) :
    WritesBack o (setValue k (operandValue s o)) s.cpu.f 2 4 s (.next (cbSet k o s)) := by
  rw [cbSet, readR8_eq]
  exact writeR8_spend_writesBack o _ s

/-- Settles O16: BIT writes flags alone, RES and SET their operand alone, with one bit changed. -/
theorem bitOperations : Obligations.BitOperations := by
  unfold Obligations.BitOperations
  intro k o s v
  obtain ⟨bitBytes, bitRun⟩ := encode_exec_bitI k o s
  obtain ⟨resBytes, resRun⟩ := encode_exec_resI k o s
  obtain ⟨setBytes, setRun⟩ := encode_exec_setI k o s
  refine ⟨bitBytes, resBytes, setBytes, ?bit, ⟨resValue k v, ?res, fun j hj => ?resBits⟩,
    ⟨setValue k v, ?set, fun j hj => ?setBits⟩⟩
  case bit => rw [bitRun, cbBit_eq]
  case res => exact resRun ▸ cbRes_writesBack k o s
  case resBits => exact resValue_getLsbD k v j k.isLt hj
  case set => exact setRun ▸ cbSet_writesBack k o s
  case setBits => exact setValue_getLsbD k v j k.isLt hj

end Sys2Proof.Machine
end

section
/-! PROOFS. Control transfer (O17, O18, O19): what a jump, a call and a return leave in the statements' terms, then each
form as one of these operations, under its condition where it has one. -/

namespace Sys2Proof.Machine

open Sys2Proof.Claims

/-! ### The shared operations -/

/-- The M-cycles spent last are the ones handed to the driver. -/
theorem State.spend_spend (s : State) (m n : Nat) : (s.spend m).spend n = s.spend n := rfl

/-- PC moves to `target` at a cost of `n` M-cycles; this is what the statements write out. -/
theorem setPc_spend (s : State) (target : Word) (n : Nat) :
    (s.setPc target).spend n = { s with cpu := { s.cpu with pc := target }, opCycles := n } := rfl

theorem jumpRel_eq (e : Byte) (s : State) :
    jumpRel e s = { s with cpu := { s.cpu with pc := s.cpu.pc + e.signExtend 16 }, opCycles := 3 } := by
  rw [jumpRel, sext16_eq, setPc_spend]

/-- A call of `target` at a cost of `n` M-cycles is the two stores of R14, with SP lowered by 2 and PC at `target`. -/
theorem push16_pc_setPc_spend (s : State) (target : Word) (n : Nat) :
    ((push16 s s.cpu.pc).setPc target).spend n =
      { pushed s (high s.cpu.pc) (low s.cpu.pc) with
        cpu := { s.cpu with sp := s.cpu.sp - 2, pc := target }
        opCycles := n } := by
  rw [push16_eq, hiByte_eq_high, loByte_eq_low]
  rfl

/-- A popped PC at a cost of `n` M-cycles: SP is raised by 2 and PC is the word at the old SP. -/
theorem popped_setPc_spend (s : State) (n : Nat) :
    ((popped s).setPc (popValue s)).spend n =
      { s with
        cpu := { s.cpu with sp := s.cpu.sp + 2, pc := busRead s (s.cpu.sp + 1) ++ busRead s s.cpu.sp }
        opCycles := n } := by
  rw [popValue_eq]
  rfl

theorem returnFromInterrupt_spend (s : State) (n : Nat) :
    (returnFromInterrupt s).spend n =
      { s with
        cpu := { s.cpu with
          sp := s.cpu.sp + 2, pc := busRead s (s.cpu.sp + 1) ++ busRead s s.cpu.sp, ime := true }
        opCycles := n } := by
  rw [returnFromInterrupt, popValue_eq]
  rfl

/-- The target of `RST`: a byte 8·k, extended with zeros (R562). -/
theorem zext16_op8 (k : Fin 8) : zext16 (op8 (8 * k.val)) = BitVec.ofNat 16 (8 * k.val) := by
  fin_cases k <;> rfl

/-- A form that branches on the model's condition branches on the rule's (R550). -/
theorem next_ite_condHolds (cc : Cond) (f : Flags) (taken notTaken : State) :
    (.next (if condHolds f cc then taken else notTaken) : Result) =
      if condOf cc f then .next taken else .next notTaken := by
  rw [condHolds_eq_condOf, apply_ite Host.Outcome.next]

/-! ### The forms on every condition and every restart -/

theorem encode_jrI (cc : Cond) (e : Byte) : encode (jrI cc e) = [op8 (0x20 + 8 * condCode cc), e] := by
  cases cc <;> rfl

theorem exec_jrI (cc : Cond) (e : Byte) (s : State) : exec (jrI cc e) s = .next (jumpRelIf cc e s) := by
  cases cc <;> rfl

theorem encode_jpA16 (a : Word) : encode (.jpA16 a) = [0xC3, low a, high a] := by
  rw [← loByte_eq_low, ← hiByte_eq_high]
  rfl

theorem encode_jpI (cc : Cond) (a : Word) :
    encode (jpI cc a) = [op8 (0xC2 + 8 * condCode cc), low a, high a] := by
  rw [← loByte_eq_low, ← hiByte_eq_high]
  cases cc <;> rfl

theorem exec_jpI (cc : Cond) (a : Word) (s : State) : exec (jpI cc a) s = .next (jumpIf cc a s) := by
  cases cc <;> rfl

theorem encode_callA16 (a : Word) : encode (.callA16 a) = [0xCD, low a, high a] := by
  rw [← loByte_eq_low, ← hiByte_eq_high]
  rfl

theorem encode_callI (cc : Cond) (a : Word) :
    encode (callI cc a) = [op8 (0xC4 + 8 * condCode cc), low a, high a] := by
  rw [← loByte_eq_low, ← hiByte_eq_high]
  cases cc <;> rfl

theorem exec_callI (cc : Cond) (a : Word) (s : State) : exec (callI cc a) s = .next (callIf cc a s) := by
  cases cc <;> rfl

theorem encode_rstI (k : Fin 8) : encode (rstI k) = [op8 (0xC7 + 8 * k.val)] := by
  fin_cases k <;> rfl

theorem exec_rstI (k : Fin 8) (s : State) : exec (rstI k) s = .next (restart (op8 (8 * k.val)) s) := by
  fin_cases k <;> rfl

theorem encode_retI (cc : Cond) : encode (retI cc) = [op8 (0xC0 + 8 * condCode cc)] := by
  cases cc <;> rfl

theorem exec_retI (cc : Cond) (s : State) : exec (retI cc) s = .next (retIf cc s) := by
  cases cc <;> rfl

/-! ### The obligations -/

/-- Settles O17: a jump writes PC alone, and one whose condition fails leaves it. -/
theorem jumps : Obligations.Jumps := by
  unfold Obligations.Jumps
  intro cc e a s
  refine ⟨rfl, ?jr, encode_jrI cc e, ?jrIf, encode_jpA16 a, ?jp, encode_jpI cc a, ?jpIf, rfl, ?jpHl⟩
  case jr => exact congrArg Host.Outcome.next (jumpRel_eq e s)
  case jrIf => rw [exec_jrI, jumpRelIf, next_ite_condHolds, jumpRel_eq]; rfl
  case jp => exact congrArg Host.Outcome.next (setPc_spend s a 4)
  case jpIf => rw [exec_jpI, jumpIf, next_ite_condHolds, jump, setPc_spend]; rfl
  case jpHl => exact congrArg Host.Outcome.next (setPc_spend s (s.pair .hl) 1)

/-- Settles O18: calls and RST push PC and set it, at their own cycle counts. -/
theorem callsAndRestarts : Obligations.CallsAndRestarts := by
  unfold Obligations.CallsAndRestarts
  intro cc k a s
  refine ⟨encode_callA16 a, ?call, encode_callI cc a, ?callIf, encode_rstI k, ?rst⟩
  case call => exact congrArg Host.Outcome.next (push16_pc_setPc_spend s a 6)
  case callIf => rw [exec_callI, callIf, next_ite_condHolds, call, push16_pc_setPc_spend]; rfl
  case rst => rw [exec_rstI, restart, zext16_op8, push16_pc_setPc_spend]

/-- Settles O19: a return pops PC; RETI then sets IME in the same instruction. -/
theorem returns : Obligations.Returns := by
  unfold Obligations.Returns
  intro cc s
  refine ⟨rfl, ?ret, encode_retI cc, ?retIf, rfl, ?reti⟩
  case ret => exact congrArg Host.Outcome.next (popped_setPc_spend s 4)
  case retIf =>
    rw [exec_retI, retIf, next_ite_condHolds, ret, State.spend_spend, popped_setPc_spend]
    rfl
  case reti => exact congrArg Host.Outcome.next (returnFromInterrupt_spend s 4)

end Sys2Proof.Machine
end

section
/-! PROOFS. The system instructions and the operations on A and the flags (O20, O21): the CB table by the
fields of a row's byte, and DAA's correction as an addition or a subtraction of bytes. -/

namespace Sys2Proof.Machine

open Sys2Proof.Claims

/-! ### The CB table (R601, R241) -/

/-- Bits 5 to 3 of a CB row's byte, as the number of a bit (R513 to R515). -/
def bitField (o : Byte) : Fin 8 := ⟨field o 5 3, Nat.mod_lt _ (by decide)⟩

/-- The CB row of a byte by its fields (R241): the block in bits 7 and 6, the operation or bit number in bits 5 to 3, the
operand in bits 2 to 0. -/
def cbRow (o : Byte) : Instr :=
  match field o 7 6 with
  | 0 => rotI (rotField (field o 5 3)) (r8Field (field o 2 0))
  | 1 => bitI (bitField o) (r8Field (field o 2 0))
  | 2 => resI (bitField o) (r8Field (field o 2 0))
  | _ => setI (bitField o) (r8Field (field o 2 0))

set_option maxRecDepth 10000 in
/-- The decoder's table (R241): all 256 rows. -/
theorem decodeCb_eq_cbRow (o : Byte) : decodeCb o = cbRow o := by
  revert o
  decide

/-- The meaning of a CB row is the operation of its block. -/
theorem exec_cbRow (o : Byte) (s : State) : exec (cbRow o) s = .next (cbEntry o s) := by
  unfold cbRow cbEntry
  match field o 7 6 with
  | 0 => exact (encode_exec_rotI (rotField (field o 5 3)) (r8Field (field o 2 0)) s).2
  | 1 => exact (encode_exec_bitI (bitField o) (r8Field (field o 2 0)) s).2
  | 2 => exact (encode_exec_resI (bitField o) (r8Field (field o 2 0)) s).2
  | _ + 3 => exact (encode_exec_setI (bitField o) (r8Field (field o 2 0)) s).2

/-- Settles O20: STOP by `stop_length` (D8), a CB row by the fields of its byte (R601). -/
theorem systemInstructions : Obligations.SystemInstructions := by
  unfold Obligations.SystemInstructions
  refine ⟨fun x s => ⟨rfl, rfl, rfl, rfl, rfl, ?stop⟩, fun o s => ?cb, fun s => ⟨rfl, rfl, rfl, rfl⟩⟩
  case stop =>
    change Host.Outcome.next (stopMode s) = _
    unfold stopMode
    cases s.params.stopLength <;> rfl
  case cb => rw [decodeCb_eq_cbRow, exec_cbRow]; rfl

/-! ### DAA, CPL, SCF and CCF -/

/-- Taking `k` away as an integer is taking it away as a byte. -/
theorem ofInt_toNat_sub (a : Byte) (k : Nat) : BitVec.ofInt 8 ((a.toNat : Int) - k) = a - BitVec.ofNat 8 k := by
  rw [Int.sub_eq_add_neg, BitVec.ofInt_add, BitVec.ofInt_neg, BitVec.ofInt_natCast, BitVec.ofInt_natCast,
    BitVec.ofNat_toNat, BitVec.setWidth_eq, BitVec.sub_eq_add_neg]

/-- DAA's correction is one number for both digits, added to A or after a subtraction taken from it; as bytes it may be
applied digit by digit (R606). -/
theorem daaResult_value (f : Flags) (a : Byte) : (daaResult f a).value = daaValue f a := by
  obtain ⟨z, n, h, c⟩ := f
  simp only [daaResult, daaCorrection, daaValue, nibble_eq_mod]
  cases n
  case false =>
    simp only [Bool.false_eq_true, if_false, BitVec.ofNat_add, BitVec.ofNat_toNat, BitVec.setWidth_eq, BitVec.add_assoc,
      apply_ite (BitVec.ofNat 8), Bool.or_eq_true, decide_eq_true_eq, gt_iff_lt]
    rfl
  case true =>
    simp only [if_true, ofInt_toNat_sub, BitVec.ofNat_add, BitVec.sub_sub, apply_ite (BitVec.ofNat 8)]
    rfl

theorem daaResult_eq (f : Flags) (a : Byte) :
    daaResult f a =
      ⟨daaValue f a, ⟨decide (daaValue f a = 0), f.n, false, f.c || (!f.n && decide (0x99 < a.toNat))⟩⟩ := by
  rw [← daaResult_value]
  rfl

/-- CPL's complement is the difference from 0xFF (R607). -/
theorem cplResult_eq (f : Flags) (a : Byte) : cplResult f a = ⟨0xFF - a, ⟨f.z, true, true, f.c⟩⟩ := by
  rw [cplResult, ← BitVec.allOnes_sub_eq_not]
  rfl

/-- A result of the family goes to A and the flags. -/
theorem aluOnA_setsReg {r : Alu} {v : Byte} {f : Flags} (result : r = ⟨v, f⟩) (s : State) :
    SetsReg .a v f 1 s (.next (aluOnA r s)) := by
  subst result
  exact setReg_setFlags_setsReg .a v f 1 s

/-- Writing the flags alone leaves A as it is. -/
theorem setFlags_setsReg (f : Flags) (s : State) : SetsReg .a s.cpu.a f 1 s (.next ((s.setFlags f).spend 1)) :=
  setReg_setFlags_setsReg .a s.cpu.a f 1 s

/-- Settles O21: DAA and CPL write A and the flags, SCF and CCF the flags alone. -/
theorem accumulatorAndFlagOperations : Obligations.AccumulatorAndFlagOperations := by
  unfold Obligations.AccumulatorAndFlagOperations
  intro s
  refine ⟨rfl, ?daa, rfl, ?cpl, rfl, setFlags_setsReg _ s, rfl, setFlags_setsReg _ s⟩
  case daa => exact aluOnA_setsReg (daaResult_eq s.cpu.f s.cpu.a) s
  case cpl => exact aluOnA_setsReg (cplResult_eq s.cpu.f s.cpu.a) s

end Sys2Proof.Machine
end

section
/-! PROOFS. What a running step does after its fetch (O29, O30): a raised Fatal ends it there (R611, R700), and EI's own
step ends with IME clear (R605, R742). -/

namespace Sys2Proof.Machine

open Sys2Proof.Claims

/-! ### The end of a step -/

theorem afterCpu_raised (was : Bool) (frames : Nat) {u : State} (raised : u.cpu.fatal.isSome = true) :
    afterCpu was frames (.next u) = .next u :=
  if_pos raised

theorem afterCpu_completed (was : Bool) (frames : Nat) {u : State} (live : u.cpu.fatal = none) :
    afterCpu was frames (.next u) = .next (finishStep was frames u) := by
  simp only [afterCpu, live]
  rfl

/-- The CPU's part always answers, and so does what follows it. -/
theorem step_next_of_live (s : State) (live : s.cpu.fatal = none) : ∃ t, step s = .next t := by
  obtain ⟨u, run⟩ := runCpu_next (pollJoypad s)
  rw [step_live s live, run]
  cases raised : u.cpu.fatal with
  | some x => exact ⟨u, afterCpu_raised _ _ (Option.isSome_of_eq_some raised)⟩
  | none => exact ⟨_, afterCpu_completed _ _ raised⟩

/-- A live running step runs what it fetches, with PC past it. -/
theorem step_running {s : State} (live : s.cpu.fatal = none) (running : s.cpu.halt = .running) {i : Instr}
    (fetch : fetched (pollJoypad s) = i) :
    step s = afterCpu s.cpu.imePending (pollJoypad s).host.framesDone (exec i (pastInstr i (pollJoypad s))) := by
  have running' : (pollJoypad s).cpu.halt = .running := by rw [pollJoypad_cpu, running]
  rw [step_live s live, runCpu_running _ running', execute, fetch, pollJoypad_cpu]

/-! ### Undefined opcodes (R611) -/

/-- The primary table at the undefined opcodes. -/
theorem fetched_undefined {s : State} {x : Byte × Instr} (mem : x ∈ undefinedOps) (opcode : busRead s s.cpu.pc = x.1) :
    fetched s = x.2 := by
  rw [fetched, fetchWindow, opcode]
  fin_cases mem
  all_goals rfl

/-- An undefined opcode is one byte, so PC past it is put back on it. -/
theorem raiseFatal_pastInstr_undefined {x : Byte × Instr} (mem : x ∈ undefinedOps) (s : State) :
    raiseFatal (pastInstr x.2 s) x.1 = { s with cpu := { s.cpu with fatal := some (x.1, s.cpu.pc) } } := by
  have oneByte : ∀ x ∈ undefinedOps, x.2.length = 1 := by decide
  have back : s.cpu.pc + BitVec.ofNat 16 1 - 1 = s.cpu.pc := BitVec.add_sub_cancel s.cpu.pc 1
  rw [pastInstr, oneByte x mem]
  simp only [raiseFatal, State.setPc, back]

/-- Settles O29: the fatal state is the only one without a next state, and an undefined opcode leads there at once. -/
theorem onlyTheFatalStateStops : Obligations.OnlyTheFatalStateStops := by
  unfold Obligations.OnlyTheFatalStateStops
  refine ⟨fun s op addr fatal => step_fatal s (op, addr) fatal, step_next_of_live, ?_⟩
  rintro s live running ⟨x, mem, opcode⟩
  have fetch : fetched (pollJoypad s) = x.2 := fetched_undefined mem (by rw [pollJoypad_cpu, opcode])
  rw [step_running live running fetch, exec_undefined _ x mem, afterCpu_raised _ _ rfl,
    raiseFatal_pastInstr_undefined mem, opcode, pollJoypad_cpu]

/-! ### EI (R605, R742) -/

theorem fetched_of_fb {s : State} (opcode : busRead s s.cpu.pc = 0xFB) : fetched s = .ei := by
  rw [fetched, fetchWindow, opcode]
  rfl

/-- With IME = 0 the evaluation has nothing to do for a running CPU, whatever is requested (R740). -/
theorem evaluateInterrupts_running_masked {s : State} (running : s.cpu.halt = .running) (masked : s.cpu.ime = false) :
    evaluateInterrupts s = (s, 0) := by
  by_cases requested : pending s = 0
  · exact evaluateInterrupts_none s requested
  · have wake : s.setHalt .running = s := by rw [State.setHalt, ← running]
    rw [evaluateInterrupts_wake s requested masked, wake]

/-- The end of a step leaves a running CPU with IME = 0 as it is, if no latch was set when the step began. -/
theorem finishStep_cpu_of_masked {s : State} (frames : Nat) (running : s.cpu.halt = .running)
    (masked : s.cpu.ime = false) : (finishStep false frames s).cpu = s.cpu := by
  have device := tick_device s.opCycles s
  have quiet : evaluateInterrupts (tick s.opCycles s) = (tick s.opCycles s, 0) :=
    evaluateInterrupts_running_masked (by rw [device.cpu, running]) (by rw [device.cpu, masked])
  rw [finishStep, saveFlush_cpu, imeLatch_idle false s (.inl rfl), quiet]
  exact device.cpu

/-- A set latch becomes IME (R742). -/
theorem imeLatch_due (s : State) (due : s.cpu.imePending = true) :
    imeLatch true s = { s with cpu := { s.cpu with ime := true, imePending := false } } := by
  rw [imeLatch, due]
  rfl

/-- EI runs with PC past it and sets the latch (R605). -/
theorem exec_ei_pastInstr (s : State) :
    exec .ei (pastInstr .ei s) =
      .next { s with cpu := { s.cpu with pc := s.cpu.pc + 1, imePending := true }, opCycles := 1 } := rfl

/-- Settles O30: EI sets the latch after the step has looked at it, so the evaluation still finds IME clear. -/
theorem enableInterruptDelay : Obligations.EnableInterruptDelay := by
  unfold Obligations.EnableInterruptDelay
  refine ⟨fun s live running masked clear opcode => ?_, fun s => imeLatch_due _ rfl, imeLatch_idle⟩
  have fetch : fetched (pollJoypad s) = .ei := fetched_of_fb (by rw [pollJoypad_cpu, opcode])
  rw [step_running live running fetch, exec_ei_pastInstr, clear, pollJoypad_cpu]
  exact ⟨_, afterCpu_completed _ _ live, finishStep_cpu_of_masked _ running masked⟩

end Sys2Proof.Machine
end

section
/-! PROOFS. Requests and their dispatch, and what a step is made of (O31, O33, O28): a request is one bit of IF, set by
`State.request` and cleared by `takeInterrupt`; the interrupt that is taken is the lowest one requested. -/

namespace Sys2Proof.Machine

open Sys2Proof.Claims

/-! ### The bits of IF (R721) -/

/-- Bit `k` of IF as a mask. -/
theorem irqMask_getLsbD (k j : Nat) (hj : j < 5) : (BitVec.ofNat 5 (2 ^ k)).getLsbD j = decide (k = j) := by
  rw [BitVec.getLsbD_ofNat, Nat.testBit_two_pow, decide_eq_true hj, Bool.true_and]

/-- A request sets its own bit of IF and no other. -/
theorem request_getLsbD (s : State) (k j : Nat) (hj : j < 5) :
    (s.request k).intr.iflag.getLsbD j = (s.intr.iflag.getLsbD j || decide (k = j)) := by
  rw [State.request, BitVec.getLsbD_or, irqMask_getLsbD k j hj]

/-- Clearing one bit of IF leaves the others. -/
theorem cleared_getLsbD (f : BitVec 5) (k j : Nat) (hj : j < 5) :
    (f &&& ~~~BitVec.ofNat 5 (2 ^ k)).getLsbD j = (f.getLsbD j && decide (k ≠ j)) := by
  rw [BitVec.getLsbD_and, BitVec.getLsbD_not, irqMask_getLsbD k j hj, decide_eq_true hj, Bool.true_and, decide_not]

/-! ### What is requested (R741) -/

theorem pending_eq_zero {s : State} (idle : ∀ k < 5, (s.intr.ie.getLsbD k && s.intr.iflag.getLsbD k) = false) :
    pending s = 0 := by
  apply BitVec.eq_of_getLsbD_eq
  intro k hk
  rw [pending_getLsbD s k hk, idle k hk]
  exact BitVec.getLsbD_zero.symm

theorem ne_zero_of_getLsbD {p : BitVec 5} {k : Nat} (set : p.getLsbD k = true) : p ≠ 0 := by
  rintro rfl
  cases set.symm.trans BitVec.getLsbD_zero

/-- The lowest set bit is the one with none set below it. -/
theorem lowestPending_eq {p : BitVec 5} {k : Nat} (requested : p.getLsbD k = true)
    (lowest : ∀ j < k, p.getLsbD j = false) : lowestPending p = k := by
  obtain ⟨-, set, below⟩ := lowestPending_spec p (ne_zero_of_getLsbD requested)
  rcases Nat.lt_trichotomy (lowestPending p) k with lt | eq | gt
  · rw [lowest _ lt] at set
    cases set
  · exact eq
  · rw [below k gt] at requested
    cases requested

/-- Taking interrupt `k` in the statements' terms: PC is pushed in a state that differs from this one in IF only. -/
theorem takeInterrupt_running_eq (s : State) (k : Nat) (hk : k < 5) :
    takeInterrupt (s.setHalt .running) k =
      { pushed { s with intr := { s.intr with iflag := s.intr.iflag &&& ~~~(BitVec.ofNat 5 (2 ^ k)) } }
          (high s.cpu.pc) (low s.cpu.pc) with
        cpu := { s.cpu with
          halt := .running, ime := false, imePending := false
          sp := s.cpu.sp - 2
          pc := 0x0040 + 8 * BitVec.ofNat 16 k } } := by
  have woken := stores_withCpu [(s.cpu.sp - 1, hiByte s.cpu.pc), (s.cpu.sp - 2, loByte s.cpu.pc)]
    { s with intr := { s.intr with iflag := s.intr.iflag &&& ~~~(BitVec.ofNat 5 (2 ^ k)) } }
    { s.cpu with halt := .running }
  rw [takeInterrupt_eq, interruptVector_eq k hk]
  simp only [State.setHalt]
  rw [woken, hiByte_eq_extract, loByte_eq_extract]
  rfl

/-- Settles O31: the three cases of the evaluation. -/
theorem interruptEvaluation : Obligations.InterruptEvaluation := by
  unfold Obligations.InterruptEvaluation
  intro s
  refine ⟨fun idle => evaluateInterrupts_none s (pending_eq_zero idle), fun k hk req masked => ?_,
    fun k hk req lowest enabled => ?_⟩
  · exact evaluateInterrupts_wake s (ne_zero_of_getLsbD ((pending_getLsbD s k hk).trans req)) masked
  · have requested : (pending s).getLsbD k = true := (pending_getLsbD s k hk).trans req
    have taken : lowestPending (pending s) = k := lowestPending_eq requested fun j hj =>
      (pending_getLsbD s j (hj.trans hk)).trans (lowest j hj)
    rw [evaluateInterrupts_take s (ne_zero_of_getLsbD requested) enabled, taken, takeInterrupt_running_eq s k hk]
    refine ⟨_, rfl, rfl, s.intr.iflag &&& ~~~(BitVec.ofNat 5 (2 ^ k)), ?_, fun j hj other => ?_, rfl⟩
    · rw [cleared_getLsbD _ k k hk, decide_eq_false (not_not_intro rfl), Bool.and_false]
    · rw [cleared_getLsbD _ k j hj, decide_eq_true other.symm, Bool.and_true]

/-- Settles O33: a tick is a device step, and a poll changes the joypad, IF bit 4 and the event queue. -/
theorem devicesOnlyRequest : Obligations.DevicesOnlyRequest := by
  unfold Obligations.DevicesOnlyRequest
  intro n s
  have device := tick_device n s
  obtain ⟨_, _, poll, keeps, low⟩ := pollJoypad_fixed s
  rw [poll]
  exact ⟨device.cpu, device.ie, fun k _ => device.keeps k, device.serialIrq, device.joypadIrq, rfl, low, keeps 4⟩

/-! ### The step (R800) -/

/-- A step of a halted or stopped CPU spends one M-cycle. -/
theorem step_idle {s : State} (live : s.cpu.fatal = none) (idle : s.cpu.halt ≠ .running) :
    step s = afterCpu (pollJoypad s).cpu.imePending (pollJoypad s).host.framesDone
      (.next { pollJoypad s with opCycles := 1 }) := by
  rw [step_live s live, runCpu_idle _ (by rwa [pollJoypad_cpu])]
  rfl

/-- Settles O28, by what the CPU's part does and what follows it. -/
theorem stepRunsTheDecodedInstruction : Obligations.StepRunsTheDecodedInstruction := by
  unfold Obligations.StepRunsTheDecodedInstruction
  intro s live
  refine ⟨pollJoypad_cpu s, fun i tail running decoded => ?_, step_idle live,
    fun t completed => afterCpu_completed _ _ completed, fun t raised => ?_⟩
  · have fetch : fetched (pollJoypad s) = i := fetched_of_decode _ i tail (by rwa [pollJoypad_cpu])
    rw [step_running live running fetch, pastInstr, State.setPc, pollJoypad_cpu]
    rfl
  · exact afterCpu_raised _ _ (Option.isSome_iff_ne_none.mpr raised)

end Sys2Proof.Machine
end

section
/-! PROOFS. Construction (O40): which header bytes are supported, hence when there is a cartridge at all; the boot ROM's
length decides the rest. -/

namespace Sys2Proof.Machine

/-- The supported codes of header byte 0x0147 (R171). -/
theorem cartType_isSome (code : Nat) :
    (cartType code).isSome = true ↔
      code ∈ [0x00, 0x01, 0x02, 0x03, 0x05, 0x06, 0x19, 0x1A, 0x1B, 0x1C, 0x1D, 0x1E] := by
  simp only [List.mem_cons, List.not_mem_nil, or_false]
  unfold cartType
  split
  case h_13 => simp_all
  all_goals simp

/-- The supported codes of header byte 0x0149 (R172). -/
theorem ramSizeOf_isSome (code : Nat) : (ramSizeOf code).isSome = true ↔ code ≤ 5 := by
  unfold ramSizeOf
  split
  case h_7 =>
    simp only [Option.isSome_none, Bool.false_eq_true, false_iff]
    simp only [imp_false] at *
    omega
  all_goals simp

/-- There is a cartridge exactly for a supported header that declares no more than the image holds (R702). -/
theorem decodeCart_isSome (rom : Buffer) (save : Option Buffer) :
    (decodeCart rom save).isSome = true ↔
      (cartType ((Memory.ofCells rom.size rom.bytes).read 0x147).toNat).isSome = true ∧
      ((Memory.ofCells rom.size rom.bytes).read 0x148).toNat ≤ 8 ∧
      (ramSizeOf ((Memory.ofCells rom.size rom.bytes).read 0x149).toNat).isSome = true ∧
      32768 * 2 ^ ((Memory.ofCells rom.size rom.bytes).read 0x148).toNat ≤ rom.size := by
  unfold decodeCart
  dsimp only
  generalize ((Memory.ofCells rom.size rom.bytes).read 0x147).toNat = kind
  generalize ((Memory.ofCells rom.size rom.bytes).read 0x148).toNat = banks
  generalize ((Memory.ofCells rom.size rom.bytes).read 0x149).toNat = ram
  cases cartType kind with
  | none => simp
  | some t =>
    by_cases supported : banks ≤ 8
    · cases ramSizeOf ram with
      | none => simp [romBankCount, supported]
      | some size =>
        have bytes : 2 * 2 ^ banks * 0x4000 = 32768 * 2 ^ banks := by ring
        simp [romBankCount, supported, bytes]
    · simp [romBankCount, supported]

theorem construct_of_none {setup : Setup} (refused : decodeCart setup.rom setup.saveData = none) :
    construct setup = .refused .invalidRom := by
  rw [construct, refused]

theorem construct_of_wrong_bootrom {setup : Setup} {cart : Cart} {b : Buffer}
    (accepted : decodeCart setup.rom setup.saveData = some cart) (boot : setup.bootrom = some b) (size : b.size ≠ 256) :
    construct setup = .refused .bootromSize := by
  simp only [construct, accepted, boot, if_neg size]

theorem construct_next {setup : Setup} {cart : Cart} (accepted : decodeCart setup.rom setup.saveData = some cart)
    (sizes : ∀ b, setup.bootrom = some b → b.size = 256) : ∃ s, construct setup = .next s := by
  cases boot : setup.bootrom with
  | none => exact ⟨bootSkip setup cart, by simp only [construct, accepted, boot]⟩
  | some b => exact ⟨bootRomStart setup cart b.bytes, by simp only [construct, accepted, boot, if_pos (sizes b boot)]⟩

/-- Settles O40, by whether the header gives a cartridge. -/
theorem constructionRefusals : Obligations.ConstructionRefusals := by
  unfold Obligations.ConstructionRefusals
  intro setup
  have supported := decodeCart_isSome setup.rom setup.saveData
  rw [cartType_isSome, ramSizeOf_isSome] at supported
  cases cart : decodeCart setup.rom setup.saveData with
  | none =>
    rw [cart] at supported
    have refused := mt supported.mpr Bool.false_ne_true
    exact ⟨fun _ => construct_of_none cart, fun ok => absurd ok refused, fun ok => absurd ok refused⟩
  | some c =>
    have ok := supported.mp (Option.isSome_of_eq_some cart)
    refine ⟨fun refused => absurd ok refused, fun _ wrong => ?_, fun _ sizes => construct_next cart sizes⟩
    obtain ⟨b, boot, size⟩ : ∃ b, setup.bootrom = some b ∧ b.size ≠ 256 := by simpa using wrong
    exact construct_of_wrong_bootrom cart boot size

end Sys2Proof.Machine
end

section
/-! PROOFS. The timer (O48, O49, O50): one T-cycle said once, by whether a reload ends and whether the selected counter bit
falls; from it TIMA's period and the four T-cycles of a reload; then the register writes. -/

namespace Sys2Proof.Machine

open Sys2Proof.Claims

/-! ### One T-cycle (R760, R763) -/

/-- The signal of R760 falls exactly on a falling edge of the selected bit with the timer enabled. -/
theorem timerSignal_falls (t : Timer) :
    (timerSignal t.counter t.tac && !timerSignal (t.counter + 1) t.tac) = fallingEdge t := by
  simp only [timerSignal, fallingEdge, show tacBit t.tac = selectedBit t.tac from rfl]
  cases t.tac.getLsbD 2 <;> simp

/-- A T-cycle without a falling edge only advances the counter. -/
theorem Timer.count_still {t : Timer} (still : fallingEdge t = false) :
    t.count = { t with counter := t.counter + 1 } := by
  simp only [Timer.count, timerSignal_falls, still]
  rfl

/-- A falling edge moves TIMA too. -/
theorem Timer.count_falls {t : Timer} (falls : fallingEdge t = true) :
    t.count = Timer.incTima { t with counter := t.counter + 1 } := by
  simp only [Timer.count, timerSignal_falls, falls]
  rfl

theorem Timer.count_below {t : Timer} (falls : fallingEdge t = true) (below : t.tima ≠ 0xFF) :
    t.count = { t with counter := t.counter + 1, tima := t.tima + 1 } :=
  (count_falls falls).trans (if_neg below)

theorem Timer.count_overflow {t : Timer} (falls : fallingEdge t = true) (top : t.tima = 0xFF) :
    t.count = { t with counter := t.counter + 1, tima := 0x00, reloadCountdown := 4 } :=
  (count_falls falls).trans (if_pos top)

/-- The reload part of a T-cycle: TIMA takes TMA when the countdown ends. -/
theorem Timer.reload_eq (t : Timer) :
    t.reload.1 =
      { t with
        tima := if t.reloadCountdown = 1 then t.tma else t.tima
        reloadCountdown := t.reloadCountdown - 1 } := by
  obtain ⟨counter, tima, tma, tac, countdown⟩ := t
  match countdown with
  | 0 => rfl
  | 1 => rfl
  | n + 2 => rfl

theorem fallingEdge_reload (t : Timer) : fallingEdge t.reload.1 = fallingEdge t := by
  rw [Timer.reload_eq]
  rfl

/-- What one T-cycle does to IF: interrupt 2 is requested when a reload ends. -/
def reloadIrq (s : State) : BitVec 5 :=
  if s.timer.reloadCountdown = 1 then s.intr.iflag ||| 0b00100 else s.intr.iflag

/-- One T-cycle: the reload, then the count, and IF. -/
theorem timerT_parts (s : State) :
    timerT s = { s with timer := s.timer.reload.1.count, intr := { s.intr with iflag := reloadIrq s } } := by
  rw [timerT_eq, reloadIrq]
  split <;> rfl

/-- Settles O48, by whether the selected bit falls and TIMA is at its end. -/
theorem timerCycle : Obligations.TimerCycle := by
  unfold Obligations.TimerCycle
  intro s
  dsimp only
  rw [timerT_parts]
  dsimp only
  have edge := fallingEdge_reload s.timer
  have tima := congrArg Timer.tima s.timer.reload_eq
  cases falls : fallingEdge s.timer with
  | false =>
    rw [Timer.count_still (edge.trans falls), Timer.reload_eq]
    exact ⟨rfl, rfl, rfl, fun _ => ⟨rfl, rfl⟩, nofun, nofun, rfl⟩
  | true =>
    by_cases top : (if s.timer.reloadCountdown = 1 then s.timer.tma else s.timer.tima) = 0xFF
    · rw [Timer.count_overflow (edge.trans falls) (tima.trans top), Timer.reload_eq]
      exact ⟨rfl, rfl, rfl, nofun, fun _ below => absurd top below, fun _ _ => ⟨rfl, rfl⟩, rfl⟩
    · rw [Timer.count_below (edge.trans falls) (tima.trans_ne top), Timer.reload_eq]
      exact ⟨rfl, rfl, rfl, nofun, fun _ _ => ⟨rfl, rfl⟩, fun _ top' => absurd top' top, rfl⟩

/-! ### TIMA's period (R760, R931) -/

/-- The selected bit and the period it gives. -/
theorem selectedBit_cases (tac : BitVec 3) :
    (selectedBit tac = 9 ∧ timaPeriod tac = 1024) ∨ (selectedBit tac = 3 ∧ timaPeriod tac = 16) ∨
    (selectedBit tac = 5 ∧ timaPeriod tac = 64) ∨ (selectedBit tac = 7 ∧ timaPeriod tac = 256) := by
  revert tac
  decide

/-- The selected bit falls exactly where the counter reaches a multiple of the period. -/
theorem fallingEdge_iff {t : Timer} (on : t.tac.getLsbD 2 = true) :
    fallingEdge t = true ↔ (t.counter.toNat + 1) % timaPeriod t.tac = 0 := by
  have bound := t.counter.isLt
  simp only [fallingEdge, on, Bool.true_and, Bool.and_eq_true, Bool.not_eq_true', ← BitVec.testBit_toNat,
    Nat.testBit_eq_decide_div_mod_eq, BitVec.toNat_add, decide_eq_true_eq, decide_eq_false_iff_not,
    show (1 : Word).toNat = 1 from rfl]
  rcases selectedBit_cases t.tac with ⟨bit, period⟩ | ⟨bit, period⟩ | ⟨bit, period⟩ | ⟨bit, period⟩
  all_goals
    rw [bit, period]
    norm_num
    omega

theorem timerT_idle {s : State} (idle : s.timer.reloadCountdown = 0) : timerT s = { s with timer := s.timer.count } := by
  have same : s.timer.reload.1 = s.timer := by simp only [Timer.reload, idle, if_true]
  rw [timerT_parts, reloadIrq, same, idle]
  rfl

theorem word_add_succ (w : Word) (n : Nat) : w + BitVec.ofNat 16 n + 1 = w + BitVec.ofNat 16 (n + 1) := by
  rw [BitVec.add_assoc, BitVec.ofNat_add]
  rfl

/-- How far into its period the counter stands. -/
def Timer.phase (t : Timer) : Nat := t.counter.toNat % timaPeriod t.tac

/-- The timer after n T-cycles, while TIMA does not overflow: one increment for each period completed. -/
def Timer.ran (t : Timer) (n : Nat) : Timer :=
  { t with
    counter := t.counter + BitVec.ofNat 16 n
    tima := t.tima + BitVec.ofNat 8 ((t.phase + n) / timaPeriod t.tac) }

theorem Timer.phase_lt (t : Timer) : t.phase < timaPeriod t.tac := by
  apply Nat.mod_lt
  rcases selectedBit_cases t.tac with ⟨-, period⟩ | ⟨-, period⟩ | ⟨-, period⟩ | ⟨-, period⟩
  all_goals
    rw [period]
    decide

theorem Timer.ran_fallingEdge {t : Timer} (on : t.tac.getLsbD 2 = true) (n : Nat) :
    fallingEdge (t.ran n) = true ↔ timaPeriod t.tac ∣ t.phase + n + 1 := by
  rw [fallingEdge_iff (t := t.ran n) on, Nat.dvd_iff_mod_eq_zero]
  simp only [Timer.ran, Timer.phase, BitVec.toNat_add, BitVec.toNat_ofNat]
  rcases selectedBit_cases t.tac with ⟨-, period⟩ | ⟨-, period⟩ | ⟨-, period⟩ | ⟨-, period⟩
  all_goals
    rw [period]
    omega

/-- Within one period the next T-cycle counts at most once. -/
theorem Timer.count_ran {t : Timer} (on : t.tac.getLsbD 2 = true) (below : t.tima ≠ 0xFF) {n : Nat}
    (within : n < timaPeriod t.tac) : (t.ran n).count = t.ran (n + 1) := by
  have periods : (t.phase + n + 1) / timaPeriod t.tac = _ := Nat.succ_div
  by_cases falls : timaPeriod t.tac ∣ t.phase + n + 1
  · have edge : t.phase + n + 1 = timaPeriod t.tac :=
      Nat.eq_of_dvd_of_lt_two_mul (Nat.succ_ne_zero _) falls (by have := t.phase_lt; omega)
    have first : (t.phase + n) / timaPeriod t.tac = 0 := Nat.div_eq_of_lt (by omega)
    have same : (t.ran n).tima = t.tima := by simp [Timer.ran, first]
    rw [if_pos falls, first] at periods
    rw [Timer.count_below ((ran_fallingEdge on n).mpr falls) (same.trans_ne below), same]
    simp only [Timer.ran, word_add_succ, ← Nat.add_assoc, periods]
    rfl
  · rw [if_neg falls] at periods
    have still : fallingEdge (t.ran n) = false := Bool.eq_false_iff.mpr fun h => falls ((ran_fallingEdge on n).mp h)
    rw [Timer.count_still still]
    simp only [Timer.ran, word_add_succ, ← Nat.add_assoc, periods, Nat.add_zero]

/-- n T-cycles of at most one period, without an overflow. -/
theorem timerT_iterate_ran {s : State} (on : s.timer.tac.getLsbD 2 = true) (idle : s.timer.reloadCountdown = 0)
    (below : s.timer.tima ≠ 0xFF) {n : Nat} (within : n ≤ timaPeriod s.timer.tac) :
    timerT^[n] s = { s with timer := s.timer.ran n } := by
  induction n with
  | zero =>
    have start : s.timer.phase / timaPeriod s.timer.tac = 0 := Nat.div_eq_of_lt s.timer.phase_lt
    simp [Timer.ran, start]
  | succ n ih =>
    rw [Function.iterate_succ_apply', ih (by omega), timerT_idle (s := { s with timer := s.timer.ran n }) idle]
    simp only [Timer.count_ran on below (n := n) (by omega)]

/-! ### The reload after an overflow (R763) -/

/-- The timer n + 1 T-cycles after an overflow began, before the reload. -/
def Timer.reloading (t : Timer) (n : Nat) : Timer :=
  { t with counter := t.counter + 1 + BitVec.ofNat 16 n, tima := 0x00, reloadCountdown := 4 - n }

/-- The counter has just passed an edge of the selected bit, so none falls during the reload. -/
theorem Timer.reloading_still {t : Timer} (on : t.tac.getLsbD 2 = true) (falls : fallingEdge t = true) {n : Nat}
    (hn : n < 4) : fallingEdge (t.reloading n) = false := by
  rw [fallingEdge_iff on] at falls
  rw [Bool.eq_false_iff, ne_eq, fallingEdge_iff (t := t.reloading n) on]
  simp only [Timer.reloading, BitVec.toNat_add, BitVec.toNat_ofNat, show (1 : Word).toNat = 1 from rfl]
  rcases selectedBit_cases t.tac with ⟨-, period⟩ | ⟨-, period⟩ | ⟨-, period⟩ | ⟨-, period⟩
  all_goals
    rw [period] at falls ⊢
    omega

theorem timerT_iterate_reloading {s : State} (on : s.timer.tac.getLsbD 2 = true) (idle : s.timer.reloadCountdown = 0)
    (top : s.timer.tima = 0xFF) (falls : fallingEdge s.timer = true) {n : Nat} (hn : n < 4) :
    timerT^[n + 1] s = { s with timer := s.timer.reloading n } := by
  induction n with
  | zero =>
    rw [Function.iterate_one, timerT_idle idle, Timer.count_overflow falls top]
    simp [Timer.reloading]
  | succ n ih =>
    have more : (s.timer.reloading n).reloadCountdown ≠ 1 := by
      simp only [Timer.reloading]
      omega
    rw [Function.iterate_succ_apply', ih (by omega), timerT_parts]
    dsimp only
    rw [Timer.count_still ((fallingEdge_reload _).trans (Timer.reloading_still on falls (by omega))), Timer.reload_eq,
      reloadIrq]
    dsimp only
    rw [if_neg more, if_neg more]
    simp only [Timer.reloading, word_add_succ, Nat.sub_sub]

/-- Settles O49: one period from anywhere holds one edge, and none falls in the four T-cycles after an edge. -/
theorem timaPeriodAndReload : Obligations.TimaPeriodAndReload := by
  unfold Obligations.TimaPeriodAndReload
  refine ⟨fun s on idle below => ?_, fun s on idle top falls => ⟨fun n hn => ?_, ?_⟩⟩
  · have once : (s.timer.phase + timaPeriod s.timer.tac) / timaPeriod s.timer.tac = 1 := by
      have := s.timer.phase_lt
      rw [Nat.add_div_right _ (by omega), Nat.div_eq_of_lt this]
    simp only [timerT_iterate_ran on idle below le_rfl, Timer.ran, once]
    exact ⟨rfl, idle, trivial⟩
  · rw [timerT_iterate_reloading on idle top falls hn]
    exact ⟨rfl, rfl⟩
  · rw [Function.iterate_succ_apply', timerT_iterate_reloading on idle top falls (by decide : 3 < 4), timerT_parts]
    dsimp only
    rw [Timer.count_still ((fallingEdge_reload _).trans (Timer.reloading_still on falls (by decide : 3 < 4)))]
    exact ⟨rfl, rfl⟩

/-! ### Register writes (R761, R762, R763) -/

theorem busWrite_io_idle {s : State} (idle : s.dma.active = false) (r : Nat) (hr : r < 0x80) (v : Byte) :
    busWrite s (BitVec.ofNat 16 (0xFF00 + r)) v = ioWrite s r v := by
  have addr : (BitVec.ofNat 16 (0xFF00 + r)).toNat = 0xFF00 + r := by
    rw [BitVec.toNat_ofNat]
    omega
  rw [busWrite_high s _ v idle (by omega), rawWrite_at s _ r v addr hr]

/-- Settles O50, register by register. -/
theorem timerWrites : Obligations.TimerWrites := by
  unfold Obligations.TimerWrites
  intro s v idle
  have write := busWrite_io_idle idle
  refine ⟨?_, write 5 (by decide) v, write 6 (by decide) v, ?_⟩
  · refine (write 4 (by decide) v).trans ?_
    simp only [ioWrite, Timer.writeDiv, Timer.incTima, timerSignal, show tacBit = selectedBit from rfl]
    split_ifs <;> rfl
  · refine (write 7 (by decide) v).trans ?_
    simp only [ioWrite, Timer.writeTac, Timer.incTima, timerSignal, BitVec.ofNat_toNat, show tacBit = selectedBit from rfl]

end Sys2Proof.Machine
end

section
/-! PROOFS. OAM DMA's start and its one M-cycle (O51). -/

namespace Sys2Proof.Machine

/-- Settles O51: the write, and the two cases of an M-cycle. -/
theorem dmaStartAndCycle : Obligations.DmaStartAndCycle := by
  unfold Obligations.DmaStartAndCycle
  refine fun s v => ⟨fun unlocked => ?_, fun idle => if_neg (Bool.eq_false_iff.mp idle), fun active => ?_⟩
  · rw [busWrite_unlocked unlocked, rawWrite_at s 0xFF46 0x46 v rfl (by decide)]
    rfl
  · rw [dmaM, if_pos active, Nat.mul_comm]

end Sys2Proof.Machine
end

section
/-! PROOFS. The PPU's dot (O53, O54): the position as one number that a dot moves by one through the 70,224 dots of a
frame, and the mode change that requests VBlank. -/

namespace Sys2Proof.Machine

/-! ### The position as a number (R780) -/

/-- The dots since the start of the frame. -/
def Ppu.position (p : Ppu) : Nat := p.ly.toNat * 456 + p.dot

/-- A position in range names its line and dot. -/
theorem Ppu.position_inj {p q : Ppu} (same : q.position = p.position) (hp : p.dot < 456) (hq : q.dot < 456) :
    q.ly = p.ly ∧ q.dot = p.dot := by
  unfold Ppu.position at same
  exact ⟨BitVec.eq_of_toNat_eq (by omega), by omega⟩

/-- LY and dot lie in a frame. -/
def Ppu.Placed (p : Ppu) : Prop := p.ly.toNat ≤ 153 ∧ p.dot < 456

theorem Ppu.Placed.position_lt {p : Ppu} (h : p.Placed) : p.position < 70224 := by
  obtain ⟨ly, dot⟩ := h
  unfold Ppu.position
  omega

/-- What a dot does to the position and the count of frames. -/
theorem advanceDot_position (s : State) (h : s.ppu.Placed) :
    (advanceDot s).ppu.Placed ∧ (advanceDot s).ppu.position = (s.ppu.position + 1) % 70224 ∧
    (advanceDot s).host.framesDone = s.host.framesDone + (s.ppu.position + 1) / 70224 := by
  obtain ⟨ly, dot⟩ := h
  rcases advanceDot_cases s with ⟨inLine, e⟩ | ⟨lineEnds, notLast, e⟩ | ⟨lineEnds, last, e⟩
  · rw [e]
    simp only [Ppu.Placed, Ppu.position]
    omega
  · have next : (s.ppu.ly + 1).toNat = s.ppu.ly.toNat + 1 := by bv_omega
    have line : s.ppu.ly.toNat ≠ 153 := fun eq => notLast (BitVec.eq_of_toNat_eq eq)
    rw [e]
    simp only [Ppu.Placed, Ppu.position, next]
    omega
  · have line : s.ppu.ly.toNat = 153 := congrArg BitVec.toNat last
    rw [e]
    simp only [Ppu.Placed, Ppu.position, frameDone, line, show (0 : Byte).toNat = 0 from rfl]
    omega

/-- A dot keeps the LCD on. -/
theorem ppuDot_lcdOn {s : State} (on : s.ppu.lcdOn = true) : (ppuDot s).ppu.lcdOn = true := by
  obtain ⟨-, -, lcdc, -⟩ := ppuDot_position s on
  rw [Ppu.lcdOn, lcdc]
  exact on

/-- n dots with the LCD on: the position moves by n around the frame, and each pass of its end completes one frame. -/
theorem ppuDot_iterate_position {s : State} (on : s.ppu.lcdOn = true) (h : s.ppu.Placed) (n : Nat) :
    (ppuDot^[n] s).ppu.lcdOn = true ∧ (ppuDot^[n] s).ppu.Placed ∧
    (ppuDot^[n] s).ppu.position = (s.ppu.position + n) % 70224 ∧
    (ppuDot^[n] s).host.framesDone = s.host.framesDone + (s.ppu.position + n) / 70224 := by
  induction n with
  | zero =>
    have := h.position_lt
    refine ⟨on, h, ?_, ?_⟩
    · rw [Nat.add_zero, Nat.mod_eq_of_lt this]
      rfl
    · rw [Nat.add_zero, Nat.div_eq_of_lt this]
      rfl
  | succ n ih =>
    rw [Function.iterate_succ_apply']
    generalize ppuDot^[n] s = t at ih ⊢
    obtain ⟨lit, placed, position, frames⟩ := ih
    obtain ⟨placed', position', frames'⟩ := advanceDot_position t placed
    obtain ⟨ly, dot, -, frames''⟩ := ppuDot_position t lit
    have samePlace : (ppuDot t).ppu.position = (advanceDot t).ppu.position := by rw [Ppu.position, ly, dot, Ppu.position]
    rw [samePlace, frames'']
    refine ⟨ppuDot_lcdOn lit, ?_, by omega, by omega⟩
    rw [Ppu.Placed, ly, dot]
    exact placed'

/-- Settles O53: a whole turn of the position. -/
theorem framePeriod : Obligations.FramePeriod := by
  unfold Obligations.FramePeriod
  intro s on ly dot
  have placed : s.ppu.Placed := ⟨ly, dot⟩
  obtain ⟨-, ⟨-, dot'⟩, position, frames⟩ := ppuDot_iterate_position on placed 70224
  have start := placed.position_lt
  have same : (ppuDot^[70224] s).ppu.position = s.ppu.position := by omega
  obtain ⟨sameLy, sameDot⟩ := Ppu.position_inj same dot dot'
  exact ⟨sameLy, sameDot, by omega⟩

/-! ### The mode and VBlank (R780, R781) -/

theorem modeOf_vblank (ly : Byte) (d len : Nat) : modeOf ly d len = .vblank ↔ 144 ≤ ly.toNat := by
  unfold modeOf
  split_ifs <;> simp [*]

/-- Entering a mode requests VBlank exactly if it is mode 1. -/
theorem enterMode_vblankIrq (m : Mode) (s : State) :
    (enterMode m s).intr.iflag.getLsbD 0 = (s.intr.iflag.getLsbD 0 || decide (m = .vblank)) := by
  cases m with
  | hblank =>
    unfold enterMode enterHblank
    dsimp only
    split <;> exact (Bool.or_false _).symm
  | vblank => exact request_getLsbD s 0 0 (by decide)
  | oamScan => exact (Bool.or_false _).symm
  | drawing => exact (Bool.or_false _).symm

theorem updateMode_vblankIrq (s : State) :
    (updateMode s).intr.iflag.getLsbD 0 =
      (s.intr.iflag.getLsbD 0 || decide (144 ≤ s.ppu.ly.toNat ∧ s.ppu.mode ≠ .vblank)) := by
  unfold updateMode
  dsimp only
  split
  · rename_i same
    have still : ¬(144 ≤ s.ppu.ly.toNat ∧ s.ppu.mode ≠ .vblank) := fun ⟨line, other⟩ =>
      other (same.symm.trans ((modeOf_vblank _ _ _).mpr line))
    rw [decide_eq_false still, Bool.or_false]
  · rename_i changed
    rw [enterMode_vblankIrq]
    dsimp only
    congr 1
    rw [decide_eq_decide, modeOf_vblank]
    exact ⟨fun line => ⟨line, fun vblank => changed (((modeOf_vblank _ _ _).mpr line).trans vblank.symm)⟩, And.left⟩

/-- The STAT interrupt is another one. -/
theorem statUpdate_vblankIrq (s : State) : (statUpdate s).intr.iflag.getLsbD 0 = s.intr.iflag.getLsbD 0 := by
  unfold statUpdate
  dsimp only
  split
  · exact (request_getLsbD _ 1 0 (by decide)).trans (Bool.or_false _)
  · rfl

theorem enters144 {ly : Byte} (h : ly.toNat ≤ 153) :
    144 ≤ (ly + 1).toNat ∧ ¬144 ≤ ly.toNat ↔ ly + 1 = 144 := by
  bv_omega

/-- From a mode that fits, mode 1 is entered where LY becomes 144. -/
theorem ppuDot_vblankIrq {s : State} (on : s.ppu.lcdOn = true) (fits : s.ppu.ModeFits) (placed : s.ppu.Placed) :
    (ppuDot s).intr.iflag.getLsbD 0 =
      (s.intr.iflag.getLsbD 0 || decide ((ppuDot s).ppu.ly = 144 ∧ (ppuDot s).ppu.dot = 0)) := by
  obtain ⟨ly, dot, -⟩ := ppuDot_position s on
  obtain ⟨-, -, -, -, -, render⟩ := renderDot_fixed (updateMode (advanceDot s))
  obtain ⟨-, -, -, -, moved⟩ := advanceDot_fixed s
  have parts : (ppuDot s).intr.iflag.getLsbD 0 = (updateMode (advanceDot s)).intr.iflag.getLsbD 0 := by
    rw [ppuDot, if_pos on, statUpdate_vblankIrq, render]
  rw [parts, ly, dot, updateMode_vblankIrq, moved]
  congr 1
  rw [decide_eq_decide]
  have mode : s.ppu.mode = .vblank ↔ 144 ≤ s.ppu.ly.toNat := by rw [fits, modeOf_vblank]
  rcases advanceDot_cases s with ⟨-, e⟩ | ⟨-, -, e⟩ | ⟨-, -, e⟩ <;> rw [e] <;> dsimp only [frameDone]
  · exact ⟨fun ⟨line, other⟩ => absurd (mode.mpr line) other, fun ⟨_, start⟩ => absurd start (Nat.succ_ne_zero _)⟩
  · rw [ne_eq, mode, enters144 placed.1]
    exact ⟨fun line => ⟨line, rfl⟩, And.left⟩
  · exact ⟨fun ⟨line, _⟩ => absurd line (by decide), fun ⟨line, _⟩ => absurd line (by decide)⟩

/-- Settles O54: the position as `advanceDot` moves it, the mode by the form the dot keeps. -/
theorem dotAndVblank : Obligations.DotAndVblank := by
  unfold Obligations.DotAndVblank
  intro s form
  refine ⟨ppuDot_off s, fun on => ?_⟩
  obtain ⟨ly, dot, -⟩ := ppuDot_position s on
  have fits := (ppuDot_ppuForm s form).modeFits (ppuDot_lcdOn on)
  have irq := ppuDot_vblankIrq on (form.modeFits on) ⟨form.inRange.ly, form.inRange.dot⟩
  refine ⟨fun inLine => ?_, fun lineEnds => ?_, fits, irq⟩
  · rw [ly, dot]
    rcases advanceDot_cases s with ⟨-, e⟩ | ⟨ends, -⟩ | ⟨ends, -⟩
    · rw [e]
      exact ⟨rfl, rfl⟩
    · omega
    · omega
  · rw [ly, dot]
    rcases advanceDot_cases s with ⟨stays, -⟩ | ⟨-, notLast, e⟩ | ⟨-, last, e⟩
    · omega
    · rw [e, if_neg notLast]
      exact ⟨rfl, rfl⟩
    · rw [e, if_pos last]
      exact ⟨rfl, rfl⟩

end Sys2Proof.Machine
end

section
/-! PROOFS. The STAT interrupt (O55) and turning the LCD off and on (O56). -/

namespace Sys2Proof.Machine

/-! ### The STAT interrupt (R783) -/

/-- An update changes the remembered levels and, on a rise, IF bit 1. -/
theorem statUpdate_eq (s : State) :
    statUpdate s =
      if s.ppu.statRises then { s with ppu := s.ppu.latchLevels }.request 1 else { s with ppu := s.ppu.latchLevels } :=
  rfl

theorem Ppu.latchLevels_latchLevels (p : Ppu) : p.latchLevels.latchLevels = p.latchLevels := rfl

/-- No remembered level can rise again. -/
theorem Ppu.statRises_latchLevels (p : Ppu) : p.latchLevels.statRises = false := by
  have level : ∀ b : Bool, (b && !b) = false := by decide
  change (p.lvlLyc && !p.lvlLyc || p.lvlM2 && !p.lvlM2 || p.lvlM1 && !p.lvlM1 || p.lvlM0 && !p.lvlM0) = false
  simp only [level, Bool.or_false]

/-- An update of a PPU whose levels are remembered does nothing. -/
theorem statUpdate_latched {s : State} (latched : s.ppu.latchLevels = s.ppu) : statUpdate s = s := by
  have still : s.ppu.statRises = false := latched ▸ s.ppu.statRises_latchLevels
  rw [statUpdate_eq, still, latched]
  rfl

theorem statUpdate_iflag (s : State) (k : Nat) (hk : k < 5) :
    (statUpdate s).intr.iflag.getLsbD k = (s.intr.iflag.getLsbD k || (decide (k = 1) && s.ppu.statRises)) := by
  rw [statUpdate_eq]
  cases s.ppu.statRises with
  | true => rw [if_pos rfl, request_getLsbD _ 1 k hk, Bool.and_true, decide_eq_decide.mpr eq_comm]
  | false =>
    rw [Bool.and_false, Bool.or_false]
    rfl

/-- Settles O55: the levels, the rise and the second update. -/
theorem statInterrupt : Obligations.StatInterrupt := by
  unfold Obligations.StatInterrupt
  intro s
  refine ⟨?_, fun k hk => ?_, statUpdate_latched (by rw [statUpdate_ppu, Ppu.latchLevels_latchLevels])⟩
  · rw [statUpdate_ppu]
    rfl
  · rw [statUpdate_iflag s k hk]
    rfl

/-! ### LCDC (R785) -/

/-- With the LCD off and no DMA nothing is locked (R785). -/
theorem unlocked_of_lcdOff {s : State} (off : s.ppu.lcdOn = false) (idle : s.dma.active = false) (a : Word) :
    readLocked s a = false ∧ writeLocked s a = false := by
  simp only [readLocked, writeLocked, vramLocked, oamLocked, off, idle, Bool.false_and, Bool.and_false, Bool.or_false,
    and_self]

/-- Settles O56, by the three cases of the write. -/
theorem lcdOffAndOn : Obligations.LcdOffAndOn := by
  unfold Obligations.LcdOffAndOn
  intro s v unlocked
  have write : busWrite s 0xFF40 v = statUpdate { s with ppu := s.ppu.writeLcdc v } := by
    rw [busWrite_unlocked unlocked, rawWrite_at s 0xFF40 0x40 v rfl (by decide)]
    rfl
  obtain ⟨-, dma, -⟩ := statUpdate_fixed { s with ppu := s.ppu.writeLcdc v }
  have ppu := statUpdate_ppu { s with ppu := s.ppu.writeLcdc v }
  dsimp only
  rw [write]
  generalize statUpdate { s with ppu := s.ppu.writeLcdc v } = t at dma ppu ⊢
  dsimp only at dma ppu
  rw [ppu]
  refine ⟨s.ppu.writeLcdc_lcdc v, fun on off => ?_, fun off on => ?_, fun same => ?_⟩
  · have dark : t.ppu.lcdOn = false := by rw [ppu, Ppu.writeLcdc_stops _ v on off]; exact off
    refine ⟨?_, ?_, ?_, ppuDot_off t dark, fun idle => unlocked_of_lcdOff dark (dma ▸ idle)⟩
    all_goals rw [Ppu.writeLcdc_stops _ v on off]; rfl
  · rw [Ppu.writeLcdc_starts _ v off on]
    exact ⟨rfl, rfl, rfl, rfl, rfl⟩
  · rw [Ppu.writeLcdc_same _ v same.symm]
    exact ⟨rfl, rfl, rfl⟩

end Sys2Proof.Machine
end

section
/-! PROOFS. The line's sprites and the one shown at a pixel (O57): the scan is the start of the overlapping entries in
OAM order; the drawing order is an insertion sort, so the first sprite found there comes before every other that shows. -/

namespace Sys2Proof.Machine

/-! ### The scan (R786, R787) -/

/-- Every entry that overlaps the line, in OAM order. -/
def overlapping (oam : Memory) (ly h : Nat) : List Sprite :=
  ((List.range 40).map (oamEntry oam)).filter fun sp => sp.onLine ly h

theorem oamScan_eq_take (oam : Memory) (ly h : Nat) : oamScan oam ly h = (overlapping oam ly h).take 10 := rfl

theorem oamEntry_onLine (oam : Memory) (i ly h : Nat) :
    (oamEntry oam i).onLine ly h = true ↔
      (oam.read (4 * i)).toNat ≤ ly + 16 ∧ ly + 16 < (oam.read (4 * i)).toNat + h := by
  rw [Sprite.onLine, Bool.and_eq_true, decide_eq_true_iff, decide_eq_true_iff]
  rfl

theorem mem_overlapping (oam : Memory) (ly h : Nat) (sp : Sprite) :
    sp ∈ overlapping oam ly h ↔ ∃ i < 40, sp = oamEntry oam i ∧ (oamEntry oam i).onLine ly h = true := by
  simp only [overlapping, List.mem_filter, List.mem_map, List.mem_range]
  constructor
  · rintro ⟨⟨i, hi, rfl⟩, on⟩
    exact ⟨i, hi, rfl, on⟩
  · rintro ⟨i, hi, rfl, on⟩
    exact ⟨⟨i, hi, rfl⟩, on⟩

theorem overlapping_ordered (oam : Memory) (ly h : Nat) :
    (overlapping oam ly h).Pairwise fun x y => x.index < y.index :=
  List.Pairwise.filter _ (List.pairwise_map.mpr List.pairwise_lt_range)

/-- An entry that is not among the first ten comes after ten that are. -/
theorem mem_take_or_later {l : List Sprite} (ordered : l.Pairwise fun x y => x.index < y.index) {n : Nat} {sp : Sprite}
    (mem : sp ∈ l) : sp ∈ l.take n ∨ (l.take n).length = n ∧ ∀ q ∈ l.take n, q.index < sp.index := by
  rw [← List.take_append_drop n l] at mem ordered
  rcases List.mem_append.mp mem with first | later
  · exact .inl first
  · obtain ⟨-, -, apart⟩ := List.pairwise_append.mp ordered
    have long := List.length_pos_of_mem later
    rw [List.length_drop] at long
    exact .inr ⟨by rw [List.length_take]; omega, fun q hq => apart q hq sp later⟩

/-! ### The drawing order (R789) -/

theorem Sprite.before_iff (p q : Sprite) :
    p.before q = true ↔ p.x.toNat < q.x.toNat ∨ (p.x = q.x ∧ p.index ≤ q.index) := by
  simp only [before, Bool.or_eq_true, Bool.and_eq_true, decide_eq_true_eq]

theorem Sprite.before_total (p q : Sprite) : p.before q = true ∨ q.before p = true := by
  simp only [before_iff, ← BitVec.toNat_inj]
  omega

theorem Sprite.before_trans {p q r : Sprite} (pq : p.before q = true) (qr : q.before r = true) : p.before r = true := by
  simp only [before_iff, ← BitVec.toNat_inj] at *
  omega

theorem insertSprite_eq (sp : Sprite) (l : List Sprite) :
    insertSprite sp l = l.orderedInsert (fun p q => p.before q = true) sp := by
  induction l with
  | nil => rfl
  | cons q rest ih => rw [insertSprite, List.orderedInsert_cons, ih]

theorem orderSprites_eq (l : List Sprite) : orderSprites l = l.insertionSort fun p q => p.before q = true := by
  induction l with
  | nil => rfl
  | cons sp rest ih => rw [List.insertionSort_cons, ← ih, ← insertSprite_eq, orderSprites, List.foldr_cons, orderSprites]

theorem mem_orderSprites (l : List Sprite) (sp : Sprite) : sp ∈ orderSprites l ↔ sp ∈ l := by
  rw [orderSprites_eq, List.mem_insertionSort]

theorem orderSprites_ordered (l : List Sprite) : (orderSprites l).Pairwise fun p q => p.before q = true := by
  have : Std.Total fun p q : Sprite => p.before q = true := ⟨Sprite.before_total⟩
  have : IsTrans Sprite fun p q => p.before q = true := ⟨fun _ _ _ => Sprite.before_trans⟩
  rw [orderSprites_eq]
  exact List.pairwise_insertionSort _ l

/-- What is found first in an ordered list comes before everything else of its kind there. -/
theorem find?_ordered {α : Type} {r : α → α → Prop} {l : List α} (ordered : l.Pairwise r) {P : α → Bool} {b : α}
    (found : l.find? P = some b) : b ∈ l ∧ P b = true ∧ ∀ q ∈ l, P q = true → q = b ∨ r b q := by
  obtain ⟨holds, before, after, rfl, skipped⟩ := List.find?_eq_some_iff_append.mp found
  refine ⟨List.mem_append_right _ List.mem_cons_self, holds, fun q mem hq => ?_⟩
  rcases List.mem_append.mp mem with early | late
  · exact absurd (skipped q early) (by rw [hq]; decide)
  · obtain ⟨-, later, -⟩ := List.pairwise_append.mp ordered
    exact (List.mem_cons.mp late).imp_right fun mem => List.rel_of_pairwise_cons later mem

/-- A sprite of the line that covers pixel x with a colour other than 0. -/
def Ppu.Shows (p : Ppu) (vram : Memory) (x : Nat) (sp : Sprite) : Prop :=
  sp ∈ p.sprites ∧ sp.covers x = true ∧ p.spriteColour vram sp x ≠ 0

theorem Ppu.mem_candidates (p : Ppu) (x : Nat) (sp : Sprite) :
    sp ∈ orderSprites (p.sprites.filter fun sp => sp.covers x) ↔ sp ∈ p.sprites ∧ sp.covers x = true := by
  rw [mem_orderSprites, List.mem_filter]

/-- The topmost sprite shows, and goes before every sprite that shows (R789). -/
theorem Ppu.topSprite_some {p : Ppu} {vram : Memory} {x : Nat} {sp : Sprite} {c : Nat}
    (top : p.topSprite vram x = some (sp, c)) :
    p.lcdc.getLsbD 1 = true ∧ p.Shows vram x sp ∧ c = p.spriteColour vram sp x ∧
    ∀ q, p.Shows vram x q → sp.before q = true := by
  unfold Ppu.topSprite at top
  split at top
  case isFalse => cases top
  case isTrue on =>
    rw [List.find?_map] at top
    obtain ⟨found, first, same⟩ := Option.map_eq_some_iff.mp top
    obtain ⟨rfl, rfl⟩ := Prod.mk.inj same
    obtain ⟨mem, colour, before⟩ := find?_ordered (orderSprites_ordered _) first
    obtain ⟨line, covers⟩ := (p.mem_candidates x found).mp mem
    refine ⟨on, ⟨line, covers, bne_iff_ne.mp colour⟩, rfl, fun q ⟨line', covers', colour'⟩ => ?_⟩
    rcases before q ((p.mem_candidates x q).mpr ⟨line', covers'⟩) (bne_iff_ne.mpr colour') with rfl | before
    · exact or_self_iff.mp (q.before_total q)
    · exact before

theorem Ppu.topSprite_none {p : Ppu} {vram : Memory} {x : Nat} (absent : p.topSprite vram x = none) :
    p.lcdc.getLsbD 1 = false ∨ ∀ q, ¬p.Shows vram x q := by
  unfold Ppu.topSprite at absent
  split at absent
  case isFalse off => exact .inl (Bool.eq_false_iff.mpr off)
  case isTrue =>
    rw [List.find?_map, Option.map_eq_none_iff, List.find?_eq_none] at absent
    exact .inr fun q ⟨line, covers, colour⟩ =>
      absent q ((p.mem_candidates x q).mpr ⟨line, covers⟩) (bne_iff_ne.mpr colour)

/-- Settles O57, by the scan as the first ten and the sprite found as the first of a sorted list. -/
theorem spriteSelectionAndPriority : Obligations.SpriteSelectionAndPriority := by
  unfold Obligations.SpriteSelectionAndPriority
  refine ⟨fun oam ly h => ?_, fun p vram x => ⟨fun sp c top => ?_, Ppu.topSprite_none⟩⟩
  · simp only [← oamEntry_onLine, oamScan_eq_take]
    have ordered := overlapping_ordered oam ly h
    refine ⟨List.length_take_le _ _, fun sp mem => ?_, ordered.sublist (List.take_sublist _ _), fun i hi on => ?_⟩
    · obtain ⟨i, hi, rfl, on⟩ := (mem_overlapping oam ly h sp).mp (List.mem_of_mem_take mem)
      exact ⟨hi, on, rfl⟩
    · exact mem_take_or_later ordered ((mem_overlapping oam ly h _).mpr ⟨i, hi, rfl, on⟩)
  · obtain ⟨on, shows, colour, first⟩ := Ppu.topSprite_some top
    exact ⟨on, shows, colour, fun q hq => (Sprite.before_iff sp q).mp (first q hq)⟩

end Sys2Proof.Machine
end

section
/-! PROOFS. The frame sequencer's lengths and the bounds of the mix (O58): of the clocks of a sequencer step only the length
clock reaches a length or the on-state of channels 2 and 3; and a mix is at most four DAC values times a volume of at
most 8. -/

namespace Sys2Proof.Machine

/-! ### The sequencer (R790, R791) -/

/-- A length clock of an enabled counter that has not run out. -/
theorem lengthClock_enabled {nr4 : Byte} (enabled : nr4.getLsbD 6 = true) {len : Nat} (left : 0 < len) (on : Bool) :
    lengthClock nr4 len on = (len - 1, on && decide (len ≠ 1)) := by
  have out : (len - 1 ≠ 0) = (len ≠ 1) := by rw [ne_eq, ne_eq, propext (show len - 1 = 0 ↔ len = 1 by omega)]
  simp only [lengthClock, enabled, left, decide_true, Bool.and_self, if_true, out]

/-- The power, and the length and on-state of channels 2 and 3, are the same. -/
def Apu.SameLengths (a b : Apu) : Prop :=
  b.power = a.power ∧ b.ch2.len = a.ch2.len ∧ b.ch2.on = a.ch2.on ∧ b.ch3.len = a.ch3.len ∧ b.ch3.on = a.ch3.on

theorem Apu.SameLengths.refl (a : Apu) : a.SameLengths a := ⟨rfl, rfl, rfl, rfl, rfl⟩

theorem Apu.SameLengths.trans {a b c : Apu} (h : a.SameLengths b) (g : b.SameLengths c) : a.SameLengths c := by
  obtain ⟨h1, h2, h3, h4, h5⟩ := h
  obtain ⟨g1, g2, g3, g4, g5⟩ := g
  exact ⟨g1.trans h1, g2.trans h2, g3.trans h3, g4.trans h4, g5.trans h5⟩

theorem Apu.clockSweep_sameLengths (a : Apu) : a.SameLengths a.clockSweep := by
  obtain ⟨ch2, ch3, -, power, -⟩ := a.clockSweep_fixed
  rw [SameLengths, ch2, ch3, power]
  exact SameLengths.refl a

theorem Apu.clockEnvelopes_sameLengths (a : Apu) : a.SameLengths a.clockEnvelopes := .refl a

/-- A sequencer step advances the step count and moves lengths by the length clock alone, on even steps. -/
theorem Apu.frameStep_lengths (a : Apu) :
    a.frameStep.fsStep = (a.fsStep + 1) % 8 ∧
    (if a.fsStep % 2 = 0 then a.clockLengths else a).SameLengths a.frameStep := by
  refine ⟨rfl, ?_⟩
  have sweep : ∀ (P : Prop) [Decidable P] (b : Apu), b.SameLengths (if P then b.clockSweep else b) := by
    intro P _ b
    split
    · exact b.clockSweep_sameLengths
    · exact .refl b
  have envelopes : ∀ (P : Prop) [Decidable P] (b : Apu), b.SameLengths (if P then b.clockEnvelopes else b) := by
    intro P _ b
    split
    · exact b.clockEnvelopes_sameLengths
    · exact .refl b
  exact (sweep _ _).trans (envelopes _ _)

theorem Apu.sequencer_idle {a : Apu} {bit12 : Bool} (idle : ¬(a.power = true ∧ a.fsPrev = true ∧ bit12 = false)) :
    a.sequencer bit12 = { a with fsPrev := bit12 } := by
  rw [sequencer, if_neg (by simpa [and_assoc] using idle)]

theorem Apu.sequencer_steps {a : Apu} {bit12 : Bool} (steps : a.power = true ∧ a.fsPrev = true ∧ bit12 = false) :
    a.sequencer bit12 = { a.frameStep with fsPrev := bit12 } := by
  rw [sequencer, if_pos (by simpa [and_assoc] using steps)]

/-- What a step of the sequencer does to the step count and the lengths. -/
theorem Apu.sequencer_lengths {a : Apu} {bit12 : Bool} (steps : a.power = true ∧ a.fsPrev = true ∧ bit12 = false) :
    (a.sequencer bit12).fsStep = (a.fsStep + 1) % 8 ∧
    (if a.fsStep % 2 = 0 then a.clockLengths else a).SameLengths (a.sequencer bit12) := by
  rw [sequencer_steps steps]
  exact a.frameStep_lengths

theorem Apu.sequencer_power (a : Apu) (bit12 : Bool) : (a.sequencer bit12).power = a.power := by
  by_cases steps : a.power = true ∧ a.fsPrev = true ∧ bit12 = false
  · obtain ⟨-, power, -⟩ := sequencer_lengths steps
    rw [power]
    split <;> rfl
  · rw [sequencer_idle steps]

/-! ### The mix (R797, R798) -/

theorem Square.output_le {c : Square} (h : c.volume ≤ 15) : c.output ≤ 15 := by
  unfold Square.output
  split
  · exact h
  · exact Nat.zero_le _

theorem NoiseChannel.output_le {c : NoiseChannel} (h : c.volume ≤ 15) : c.output ≤ 15 := by
  unfold NoiseChannel.output
  split
  · exact h
  · exact Nat.zero_le _

/-- A wave sample is a nibble. -/
theorem waveSample_le (ram : Memory) (i : Nat) : waveSample ram i ≤ 15 := by
  unfold waveSample
  have := (ram.read (i / 2)).isLt
  split <;> omega

theorem WaveChannel.output_le (c : WaveChannel) : c.output ≤ 15 := by
  unfold WaveChannel.output
  dsimp only
  split
  · exact (Nat.div_le_self _ _).trans (waveSample_le _ _)
  · exact Nat.zero_le _

/-- A value within the range of one DAC, over 15. -/
def InDacRange (v : Int) : Prop := -15 ≤ v ∧ v ≤ 15

theorem dacValue_inRange (dac : Bool) {out : Nat} (h : out ≤ 15) : InDacRange (dacValue dac out) := by
  unfold InDacRange dacValue
  split <;> omega

theorem routed_inRange {v : Int} (h : InDacRange v) (routed : Bool) : InDacRange (if routed then v else 0) := by
  split
  · exact h
  · exact ⟨by decide, by decide⟩

/-- Four routed values, at a volume of at most 8. -/
theorem routedSum_bounds {v1 v2 v3 v4 : Int} (h1 : InDacRange v1) (h2 : InDacRange v2) (h3 : InDacRange v3)
    (h4 : InDacRange v4) (nr51 : Byte) (lo volume : Nat) (hv : volume < 8) :
    -480 ≤ routedSum [v1, v2, v3, v4] nr51 lo * ((volume : Nat) + 1) ∧
    routedSum [v1, v2, v3, v4] nr51 lo * ((volume : Nat) + 1) ≤ 480 := by
  have sum : -60 ≤ routedSum [v1, v2, v3, v4] nr51 lo ∧ routedSum [v1, v2, v3, v4] nr51 lo ≤ 60 := by
    obtain ⟨l1, u1⟩ := routed_inRange h1 (nr51.getLsbD lo)
    obtain ⟨l2, u2⟩ := routed_inRange h2 (nr51.getLsbD (lo + 1))
    obtain ⟨l3, u3⟩ := routed_inRange h3 (nr51.getLsbD (lo + 2))
    obtain ⟨l4, u4⟩ := routed_inRange h4 (nr51.getLsbD (lo + 3))
    simp only [routedSum, List.zipIdx_cons, List.zipIdx_nil, List.map_cons, List.map_nil, List.sum_cons, List.sum_nil]
    simp only [Nat.add_zero, Nat.zero_add, Nat.reduceAdd]
    omega
  obtain ⟨low, high⟩ := sum
  generalize routedSum [v1, v2, v3, v4] nr51 lo = r at low high
  constructor <;> nlinarith

theorem routedSum_zero (nr51 : Byte) (lo : Nat) : routedSum [0, 0, 0, 0] nr51 lo = 0 := by
  simp [routedSum]

/-- Settles O58: the sequencer, then the mix. -/
theorem apuSequencerAndMix : Obligations.ApuSequencerAndMix := by
  unfold Obligations.ApuSequencerAndMix
  refine ⟨fun a bit12 => ⟨rfl, a.sequencer_power bit12, Apu.sequencer_idle, fun steps => ?_⟩,
    fun a vol1 vol2 vol4 => ?_⟩
  · obtain ⟨step, same⟩ := Apu.sequencer_lengths steps
    refine ⟨step, fun even enabled left => ?_, fun even enabled left => ?_, fun odd => ?_⟩
    · rw [if_pos even] at same
      obtain ⟨-, len, on, -⟩ := same
      have clock := lengthClock_enabled enabled left a.ch2.on
      exact ⟨len.trans (congrArg Prod.fst clock), on.trans (congrArg Prod.snd clock)⟩
    · rw [if_pos even] at same
      obtain ⟨-, -, -, len, on⟩ := same
      have clock := lengthClock_enabled enabled left a.ch3.on
      exact ⟨len.trans (congrArg Prod.fst clock), on.trans (congrArg Prod.snd clock)⟩
    · rw [if_neg (by omega)] at same
      obtain ⟨-, lengths⟩ := same
      exact lengths
  · have bounds := routedSum_bounds (dacValue_inRange (dacOn a.ch1.nr2) (Square.output_le vol1))
      (dacValue_inRange (dacOn a.ch2.nr2) (Square.output_le vol2)) (dacValue_inRange a.ch3.dacOn a.ch3.output_le)
      (dacValue_inRange (dacOn a.ch4.nr42) (NoiseChannel.output_le vol4)) a.nr51
    obtain ⟨leftLow, leftHigh⟩ := bounds 4 (a.nr50.toNat / 16 % 8) (Nat.mod_lt _ (by decide))
    obtain ⟨rightLow, rightHigh⟩ := bounds 0 (a.nr50.toNat % 8) (Nat.mod_lt _ (by decide))
    refine ⟨leftLow, leftHigh, rightLow, rightHigh, fun off1 off2 off3 off4 => ?_⟩
    have silent : a.dacValues = [0, 0, 0, 0] := by
      simp only [Apu.dacValues, dacValue, off1, off2, off3, off4]
      rfl
    simp only [Apu.mix, silent, routedSum_zero, Int.zero_mul]

end Sys2Proof.Machine
end

section
/-! PROOFS. The joypad (O59): the bits of P1, one event, and a poll as the events taken in order. -/

namespace Sys2Proof.Machine

/-! ### Reading P1 (R73, R770) -/

/-- The bits of a byte built as P1 is, one flag to each of bits 5 to 0. -/
theorem p1_bits (b5 b4 b3 b2 b1 b0 : Bool) :
    let p1 := 0xC0 ||| bitAt b5 5 ||| bitAt b4 4 ||| bitAt b3 3 ||| bitAt b2 2 ||| bitAt b1 1 ||| bitAt b0 0
    p1.getLsbD 7 = true ∧ p1.getLsbD 6 = true ∧ p1.getLsbD 5 = b5 ∧ p1.getLsbD 4 = b4 ∧ p1.getLsbD 3 = b3 ∧
      p1.getLsbD 2 = b2 ∧ p1.getLsbD 1 = b1 ∧ p1.getLsbD 0 = b0 := by
  revert b5 b4 b3 b2 b1 b0
  decide

/-- A line reads 0 exactly where a pressed button of a selected row pulls it down. -/
theorem Joypad.line_iff (j : Joypad) (dir act : Button) :
    (!j.lineLow dir act) = false ↔
      (j.selDirection = false ∧ j.pressed dir = true) ∨ (j.selAction = false ∧ j.pressed act = true) := by
  simp only [lineLow, Bool.not_eq_false', Bool.or_eq_true, Bool.and_eq_true, Bool.not_eq_true']

/-! ### One event (R771) -/

theorem Joypad.pressed_setPressed_same (j : Joypad) (k : Button) (p : Bool) : (j.setPressed k p).pressed k = p := by
  cases k <;> rfl

theorem Joypad.pressed_setPressed_ne (j : Joypad) {k i : Button} (p : Bool) (other : i ≠ k) :
    (j.setPressed k p).pressed i = j.pressed i := by
  cases k <;> cases i <;> first | rfl | exact absurd rfl other

theorem joypadUpdate_joypad (s : State) (ev : JoyEvent) :
    (joypadUpdate s ev).joypad = s.joypad.setPressed ev.button ev.pressed := by
  unfold joypadUpdate
  dsimp only
  split <;> rfl

/-- Interrupt 4 is requested on a press edge in a selected row. -/
theorem joypadUpdate_iflag (s : State) (k : Button) (p : Bool) :
    (joypadUpdate s ⟨k, p⟩).intr.iflag =
      if p = true ∧ s.joypad.pressed k = false ∧ s.joypad.rowSelected k = true then s.intr.iflag ||| 0b10000
      else s.intr.iflag := by
  unfold joypadUpdate
  dsimp only
  simp only [Bool.and_eq_true, Bool.not_eq_true', and_assoc]
  split <;> rfl

/-! ### A poll (R772) -/

/-- An event queued last is taken last. -/
theorem pollJoypad_hostEvent (s : State) (ev : JoyEvent) :
    pollJoypad (hostEvent s ev) = joypadUpdate (pollJoypad s) ev := by
  simp only [pollJoypad, hostEvent, List.foldl_append, List.foldl_cons, List.foldl_nil]

theorem pollJoypad_empty {s : State} (empty : s.host.events = []) : pollJoypad s = s := by
  rw [pollJoypad, empty, List.foldl_nil, ← empty]

theorem pollJoypad_events (s : State) : (pollJoypad s).host.events = [] := by
  obtain ⟨_, _, poll, -⟩ := pollJoypad_fixed s
  rw [poll]

/-- Settles O59: the bits of P1, an event, the poll. -/
theorem joypadReadsAndEvents : Obligations.JoypadReadsAndEvents := by
  unfold Obligations.JoypadReadsAndEvents
  refine ⟨fun j => ?_, fun s k pressed => ?_, fun s => pollJoypad_empty,
    fun s ev => ⟨pollJoypad_hostEvent s ev, pollJoypad_events s⟩⟩
  · obtain ⟨bit7, bit6, bit5, bit4, bit3, bit2, bit1, bit0⟩ := p1_bits j.selAction j.selDirection
      (!j.lineLow .down .start) (!j.lineLow .up .select) (!j.lineLow .left .b) (!j.lineLow .right .a)
    dsimp only [Joypad.readP1]
    rw [bit3, bit2, bit1, bit0]
    exact ⟨bit7, bit6, bit5, bit4, j.line_iff _ _, j.line_iff _ _, j.line_iff _ _, j.line_iff _ _⟩
  · dsimp only
    rw [joypadUpdate_joypad, joypadUpdate_iflag]
    refine ⟨s.joypad.pressed_setPressed_same k pressed, fun i other => s.joypad.pressed_setPressed_ne pressed other, ?_⟩
    cases k <;> simp only [Joypad.rowSelected, Bool.not_eq_true']

end Sys2Proof.Machine
end
